-- ==== Sys2Proof/Word.lean ====
section
/-! DEFINITION. The fixed widths of the block (spec 00_scope.md R11, 30_encoding.md R45). -/

namespace Sys2Proof

/-- A one-bit register: `dir`, `comp`, `en` (R11). -/
abbrev Bit := BitVec 1

/-- A byte: the duty and counter registers and the host data bus (R11). -/
abbrev Byte := BitVec 8

/-- A 3-bit offset of the host register window (R11, R33). -/
abbrev Offset := BitVec 3

/-- A 13-bit operation word (R45). -/
abbrev OpWord := BitVec 13

end Sys2Proof
end

