-- ==== Sys2Proof/Syntax.lean ====
section
/-! DEFINITION. The operations of the block: one constructor for each row of spec/opcode_table.json
(30_encoding.md R44, R49). -/

namespace Sys2Proof

/-- The four kinds of operation, the field K of a word (R44, R45). -/
inductive Kind where
  | tick
  | write
  | read
  | reset
  deriving DecidableEq, Repr

/-- An operation of the block, named by its mnemonic (R49). -/
inductive Instr where
  /-- TICK: one periodic timer event (R57). -/
  | tick
  /-- ENABLE: `WR CTRL, 0x01` (R72). -/
  | enable
  /-- WR_CTRL_ZERO: `WR CTRL, 0x00` (R73). -/
  | wrCtrlZero
  /-- WR_CTRL_RSV: `WR CTRL, data` with `data[7:1] != 0` (R74). -/
  | wrCtrlRsv (data : Byte)
  /-- WR_STATUS: `WR STATUS, data` (R75). -/
  | wrStatus (data : Byte)
  /-- WR_DUTY: `WR DUTY, data` (R76). -/
  | wrDuty (data : Byte)
  /-- WR_CNT: `WR CNT, data` (R77). -/
  | wrCnt (data : Byte)
  /-- WR_UNMAPPED: `WR off, data` with `off` in 4 to 7 (R78). -/
  | wrUnmapped (off : Offset) (data : Byte)
  /-- RD_CTRL: `RD CTRL` (R79). -/
  | rdCtrl
  /-- RD_STATUS: `RD STATUS` (R80). -/
  | rdStatus
  /-- RD_DUTY: `RD DUTY` (R81). -/
  | rdDuty
  /-- RD_CNT: `RD CNT` (R82). -/
  | rdCnt
  /-- RD_UNMAPPED: `RD off` with `off` in 4 to 7 (R83). -/
  | rdUnmapped (off : Offset)
  /-- RESET (R101). -/
  | reset
  deriving DecidableEq, Repr

/-- The kind of an operation (R44). -/
def Instr.kind : Instr → Kind
  | .tick => .tick
  | .enable => .write
  | .wrCtrlZero => .write
  | .wrCtrlRsv _ => .write
  | .wrStatus _ => .write
  | .wrDuty _ => .write
  | .wrCnt _ => .write
  | .wrUnmapped _ _ => .write
  | .rdCtrl => .read
  | .rdStatus => .read
  | .rdDuty => .read
  | .rdCnt => .read
  | .rdUnmapped _ => .read
  | .reset => .reset

end Sys2Proof
end

