-- ==== Sys2Proof/WellFormed.lean ====
section
/-! DEFINITION. Which operations have a word (spec 30_encoding.md R49): the operand conditions of WR_CTRL_RSV,
WR_UNMAPPED and RD_UNMAPPED. -/

namespace Sys2Proof

/-- `D[7:1] != 0`: the data byte sets a reserved bit of CTRL (R49, R74). -/
def setsReservedCtrl (data : Byte) : Bool := data.extractLsb' 1 7 != 0#7

/-- The offset is one of the unmapped offsets 4 to 7 (R27, R39). -/
def unmappedOffset (off : Offset) : Bool := decide (4 ≤ off.toNat)

/-- The operation is one that some word spells (R49). -/
def Instr.wf : Instr → Bool
  | .tick => true
  | .enable => true
  | .wrCtrlZero => true
  | .wrCtrlRsv data => setsReservedCtrl data
  | .wrStatus _ => true
  | .wrDuty _ => true
  | .wrCnt _ => true
  | .wrUnmapped off _ => unmappedOffset off
  | .rdCtrl => true
  | .rdStatus => true
  | .rdDuty => true
  | .rdCnt => true
  | .rdUnmapped off => unmappedOffset off
  | .reset => true

end Sys2Proof
end

