-- ==== Sys2Proof/Decode.lean ====
section
/-! DEFINITION. The operation word and its decoding (spec 30_encoding.md R45 to R52), and the encoder. -/

namespace Sys2Proof

/-- The verdict of a word that spells no operation (R49, R50). -/
inductive DecodeError where
  | invalidWord
  deriving DecidableEq, Repr

/-- Field K, bits 12:11 (R46). -/
def fieldK (w : OpWord) : BitVec 2 := w.extractLsb' 11 2

/-- Field A, bits 10:8: a register offset, not scaled (R47). -/
def fieldA (w : OpWord) : Offset := w.extractLsb' 8 3

/-- Field D, bits 7:0: the byte a WRITE presents, as it is (R48). -/
def fieldD (w : OpWord) : Byte := w.extractLsb' 0 8

/-- The word `{K, A, D}` (R45). -/
def packWord (k : BitVec 2) (a : Offset) (d : Byte) : OpWord := k ++ a ++ d

/-- The value of field K for each kind (R45). -/
def Kind.code : Kind → BitVec 2
  | .tick => 0b00#2
  | .write => 0b01#2
  | .read => 0b10#2
  | .reset => 0b11#2

/-- Which operation a WRITE of `data` at offset `off` is (R49, the case `0b01`). -/
def writeInstr (off : Offset) (data : Byte) : Instr :=
  if off = 0#3 then
    if data = 0x01#8 then .enable
    else if data = 0x00#8 then .wrCtrlZero
    else .wrCtrlRsv data
  else if off = 1#3 then .wrStatus data
  else if off = 2#3 then .wrDuty data
  else if off = 3#3 then .wrCnt data
  else .wrUnmapped off data

/-- Which operation a READ at offset `off` is (R49, the case `0b10`). -/
def readInstr (off : Offset) : Instr :=
  if off = 0#3 then .rdCtrl
  else if off = 1#3 then .rdStatus
  else if off = 2#3 then .rdDuty
  else if off = 3#3 then .rdCnt
  else .rdUnmapped off

/-- `decode` of R49: total on all 8192 words. -/
def decode (w : OpWord) : Except DecodeError Instr :=
  if fieldK w = 0b00#2 then
    if fieldA w = 0#3 ∧ fieldD w = 0#8 then .ok .tick else .error .invalidWord
  else if fieldK w = 0b11#2 then
    if fieldA w = 0#3 ∧ fieldD w = 0#8 then .ok .reset else .error .invalidWord
  else if fieldK w = 0b10#2 then
    if fieldD w ≠ 0#8 then .error .invalidWord else .ok (readInstr (fieldA w))
  else
    .ok (writeInstr (fieldA w) (fieldD w))

/-- The word that spells an operation (R45, R49). -/
def encode : Instr → OpWord
  | .tick => packWord Kind.tick.code 0#3 0#8
  | .enable => packWord Kind.write.code 0#3 0x01#8
  | .wrCtrlZero => packWord Kind.write.code 0#3 0x00#8
  | .wrCtrlRsv data => packWord Kind.write.code 0#3 data
  | .wrStatus data => packWord Kind.write.code 1#3 data
  | .wrDuty data => packWord Kind.write.code 2#3 data
  | .wrCnt data => packWord Kind.write.code 3#3 data
  | .wrUnmapped off data => packWord Kind.write.code off data
  | .rdCtrl => packWord Kind.read.code 0#3 0#8
  | .rdStatus => packWord Kind.read.code 1#3 0#8
  | .rdDuty => packWord Kind.read.code 2#3 0#8
  | .rdCnt => packWord Kind.read.code 3#3 0#8
  | .rdUnmapped off => packWord Kind.read.code off 0#8
  | .reset => packWord Kind.reset.code 0#3 0#8

/-! ## The match/mask form of the same map (R49, its table) -/

/-- A row of R49's match/mask table: the word matches when `w & mask = pattern` and the row's extra condition
holds. -/
structure DecodeRow where
  mnemonic : String
  pattern : OpWord
  mask : OpWord
  cond : OpWord → Bool
  instr : OpWord → Instr

/-- The word matches the row. -/
def DecodeRow.hits (r : DecodeRow) (w : OpWord) : Bool :=
  (w &&& r.mask == r.pattern) && r.cond w

/-- R49's table, top to bottom. -/
def decodeRows : List DecodeRow := [
  ⟨"TICK", 0x0000, 0x1FFF, fun _ => true, fun _ => .tick⟩,
  ⟨"ENABLE", 0x0801, 0x1FFF, fun _ => true, fun _ => .enable⟩,
  ⟨"WR_CTRL_ZERO", 0x0800, 0x1FFF, fun _ => true, fun _ => .wrCtrlZero⟩,
  ⟨"WR_CTRL_RSV", 0x0800, 0x1F00, fun w => setsReservedCtrl (fieldD w), fun w => .wrCtrlRsv (fieldD w)⟩,
  ⟨"WR_STATUS", 0x0900, 0x1F00, fun _ => true, fun w => .wrStatus (fieldD w)⟩,
  ⟨"WR_DUTY", 0x0A00, 0x1F00, fun _ => true, fun w => .wrDuty (fieldD w)⟩,
  ⟨"WR_CNT", 0x0B00, 0x1F00, fun _ => true, fun w => .wrCnt (fieldD w)⟩,
  ⟨"WR_UNMAPPED", 0x0C00, 0x1C00, fun _ => true, fun w => .wrUnmapped (fieldA w) (fieldD w)⟩,
  ⟨"RD_CTRL", 0x1000, 0x1FFF, fun _ => true, fun _ => .rdCtrl⟩,
  ⟨"RD_STATUS", 0x1100, 0x1FFF, fun _ => true, fun _ => .rdStatus⟩,
  ⟨"RD_DUTY", 0x1200, 0x1FFF, fun _ => true, fun _ => .rdDuty⟩,
  ⟨"RD_CNT", 0x1300, 0x1FFF, fun _ => true, fun _ => .rdCnt⟩,
  ⟨"RD_UNMAPPED", 0x1400, 0x1CFF, fun _ => true, fun w => .rdUnmapped (fieldA w)⟩,
  ⟨"RESET", 0x1800, 0x1FFF, fun _ => true, fun _ => .reset⟩]

/-- Decoding by the table: the first row that the word matches (R49: rows are tried top to bottom). -/
def decodeByTable (w : OpWord) : Except DecodeError Instr :=
  match decodeRows.find? (·.hits w) with
  | some r => .ok (r.instr w)
  | none => .error .invalidWord

/-! ## The opcode table's numbers -/

/-- The operation word in a number of the opcode table. Every word is 13 bits (R52), the table's width in whole
bytes is 16, and the bits above bit 12 carry no bit of the word (DESIGN CHOICE, log entry 7). -/
def tableWord (nbits w : Nat) : OpWord := BitVec.ofNat 13 (w % 2 ^ nbits)

/-- The instruction the decoder reads from a number of the opcode table; none where it refuses. -/
def decodeTableWord (nbits w : Nat) : Option Instr :=
  match decode (tableWord nbits w) with
  | .ok i => some i
  | .error _ => none

end Sys2Proof
end

