-- ==== Sys2Proof/Config.lean ====
section
/-! DEFINITION. What is fixed for one instance of the block: the elaboration parameters (spec 00_scope.md
R6 to R10), the OPEN parameters of the platform (92_eei_decisions.md D6, D22, D33) and the register
contents at power-on, which the spec leaves unspecified (10_state.md R32). -/

namespace Sys2Proof.Config

/-- The elaboration parameters of one instance: `MAX` (R6) and `THRESHOLD` (R7). Naturals, because R6 and R7
call them natural numbers and no register holds them. -/
structure Params where
  max : Nat
  threshold : Nat
  deriving DecidableEq, Repr

/-- Parameter well-formedness, the three checks of R9 in order. -/
def Params.wf (p : Params) : Bool :=
  decide (1 ≤ p.max) && decide (1 ≤ p.threshold) && decide (p.max + p.threshold - 1 ≤ 255)

/-- `cfg_matched := (MAX = THRESHOLD)` (R10). -/
def Params.matched (p : Params) : Bool :=
  decide (p.max = p.threshold)

/-- The reference configuration, `MAX = THRESHOLD = 125` (R6, R7). R6 says 125 is the reference value and not an
assumed value of every instance: only `State.reset` uses this pair (DESIGN CHOICE, log entry 1). -/
def reference : Params := { max := 125, threshold := 125 }

/-- The electrical level of an output line (D6). -/
inductive Level where
  | low
  | high
  deriving DecidableEq, Repr, Inhabited

/-- The other level. -/
def Level.other : Level → Level
  | .low => .high
  | .high => .low

/-- OPEN parameter `COMP_ON_LEVEL` (D6, U13): the electrical level that "on" drives. No body: a free value
(log entry 10). -/
opaque compOnLevel : Level

/-- OPEN parameter `HOST_BASE` (D22, U14): where the platform places the host window. No body: a free value
(log entry 10). -/
opaque hostBase : Nat

/-- OPEN parameter `PERIOD` (R8, D33, U15): the interval between two timer events, in milliseconds. No rule of the
block reads it. No body: a free value (log entry 10). -/
opaque period : Nat

/-- The time `n` events take (R8: `PERIOD` is needed only to turn event counts into time). -/
def eventTime (n : Nat) : Nat := n * period

/-- `duty` before the first RESET: unspecified (R32), a free value (log entry 5). -/
opaque powerOnDuty : Byte

/-- `dir` before the first RESET: unspecified (R32), a free value (log entry 5). -/
opaque powerOnDir : Bit

/-- `cnt` before the first RESET: unspecified (R32), a free value (log entry 5). -/
opaque powerOnCnt : Byte

/-- `comp` before the first RESET: unspecified (R32), a free value (log entry 5). -/
opaque powerOnComp : Bit

/-- `en` before the first RESET: unspecified (R32), a free value (log entry 5). -/
opaque powerOnEn : Bit

/-- `err` before the first RESET: unspecified (R32), a free value (log entry 5). -/
opaque powerOnErr : BitVec 3

end Sys2Proof.Config
end

