-- ==== Sys2Proof/Machine/State.lean ====
section
/-! DEFINITION. The state of the block (spec 10_state.md R15 to R21, R32), its reset state (R28) and its power-on
state, and the reasons a step can stop. -/

namespace Sys2Proof.Machine

/-- Faults that stop the machine. There are none: a fault of the block sets a sticky bit of `err` and the
operation completes (60_exceptions.md R86, R92). Safe: no run is cut short by one (log entry 8). -/
inductive Fault where
  deriving DecidableEq, Repr

/-- Inputs the model has no meaning for (R14 `refuse(reason)`). -/
inductive Refusal where
  /-- `exec`, for an instruction without a meaning: no arm raises it. Safe. -/
  | notModelled (mnemonic : String)
  /-- Every operation, where the parameter pair fails R9 (00_scope.md R9, U9: there is no such instance). Safe. -/
  | noInstance
  /-- Every operation but RESET while `was_reset` is false (10_state.md R32, 70_reset_and_hazards.md R102). Safe. -/
  | notReset
  /-- A word whose decode is `InvalidWord` (30_encoding.md R50): no port can present it. Safe. -/
  | invalidWord
  deriving DecidableEq, Repr

/-- The state. The first seven fields are the spec's (R15); the last three are the model's own. -/
structure State where
  /-- duty value (R16) -/
  duty : Byte
  /-- direction: 0 is +1, RISING; 1 is -1, FALLING (R17) -/
  dir : Bit
  /-- elapsed-event counter (R18) -/
  cnt : Byte
  /-- companion output state: 1 is on (R20) -/
  comp : Bit
  /-- event-delivery enable (R19) -/
  en : Bit
  /-- sticky fault flags: bit 0 CFG_MISMATCH, bit 1 DUTY_RANGE, bit 2 HOST_ACCESS (R21, R85) -/
  err : BitVec 3
  /-- the mark `was_reset` (R32) -/
  wasReset : Bool
  /-- MODEL: the parameters this instance was elaborated with (R6, R7; log entry 1) -/
  cfg : Config.Params
  /-- MODEL: the byte the last step returned on `host_rdata`, if it returned one (R43; log entry 3) -/
  rdata : Option Byte
  /-- MODEL: the operation words presented and not yet performed, oldest first (R40; log entry 2) -/
  input : List OpWord
  deriving DecidableEq, Repr

/-- The state after RESET of an instance with parameters `p`, with nothing presented (R28). -/
def State.resetOf (p : Config.Params) : State where
  duty := 0x00#8
  dir := 0#1
  cnt := 0x00#8
  comp := 1#1
  en := 0#1
  err := if p.matched then 0b000#3 else 0b001#3
  wasReset := true
  cfg := p
  rdata := none
  input := []

/-- The machine right after reset. Every register has the value of R28; the parameters are the reference pair
(DESIGN CHOICE, unsafe, log entry 1). -/
def State.reset : State := State.resetOf Config.reference

/-- The machine at power-on: `was_reset` is false and every register is unspecified (R32, R102; log entry 5). -/
def State.powerOn (p : Config.Params) : State where
  duty := Config.powerOnDuty
  dir := Config.powerOnDir
  cnt := Config.powerOnCnt
  comp := Config.powerOnComp
  en := Config.powerOnEn
  err := Config.powerOnErr
  wasReset := false
  cfg := p
  rdata := none
  input := []

end Sys2Proof.Machine
end

