-- ==== Sys2Proof/Machine/Flags.lean ====
section
/-! DEFINITION. The fault flags (spec 60_exceptions.md R85 to R92): the causes, when each holds, and raising one. -/

namespace Sys2Proof.Machine

/-- The three fault causes (R85). -/
inductive Cause where
  | cfgMismatch
  | dutyRange
  | hostAccess
  deriving DecidableEq, Repr

/-- The cause code, which is the index of its bit in `err` (R85). -/
def Cause.code : Cause → Nat
  | .cfgMismatch => 0
  | .dutyRange => 1
  | .hostAccess => 2

/-- The bit of `err` a cause sets (R85). -/
def Cause.mask (k : Cause) : BitVec 3 := 1#3 <<< k.code

/-- The flag of a cause is set (R21). -/
def State.flag (s : State) (k : Cause) : Bool := s.err.getLsbD k.code

/-- `raise Fault(k)`: sets `err[k]` and nothing else; the operation goes on (R14, R86). This is the whole of taking
a fault: no state is saved, no control is transferred, and there is no return (R87, R96). -/
def raise (k : Cause) (s : State) : State := { s with err := s.err ||| k.mask }

/-- `raise Fault(k)` where a condition holds. -/
def raiseIf (c : Bool) (k : Cause) (s : State) : State := if c then raise k s else s

/-- The fault flags RESET writes: `{0, 0, (MAX != THRESHOLD)}` (R88, R101). -/
def resetErr (p : Config.Params) : BitVec 3 := 0b00#2 ++ (if p.max ≠ p.threshold then 1#1 else 0#1)

/-- When TICK raises DUTY_RANGE: the new duty value is below 0 or above `MAX` (R61, R89). -/
def outOfRange (p : Config.Params) (d : Int) : Bool := decide (d < 0) || decide (d > p.max)

end Sys2Proof.Machine
end

