-- ==== Sys2Proof/Machine/Operands.lean ====
section
/-! DEFINITION. What an operation reads: the step a direction encodes (spec 10_state.md R17) and the bytes of the
host window (R23 to R27, 20_memory.md R34, R39). The offset and the data byte of a word are fields of the
instruction (30_encoding.md R47, R48); there is no other operand form. -/

namespace Sys2Proof.Machine

/-- `dirval(dir)`: `dirval(0) = +1`, `dirval(1) = -1` (R17). -/
def dirval (dir : Bit) : Int := if dir = 0#1 then 1 else -1

/-- The byte at CTRL: `{0b0000000, en}` (R23, R79). -/
def ctrlByte (s : State) : Byte := 0b0000000#7 ++ s.en

/-- The byte at STATUS: `{0b000, err[2], err[1], err[0], dir, comp}` (R24, R80). -/
def statusByte (s : State) : Byte := 0b000#3 ++ s.err ++ s.dir ++ s.comp

/-- The byte at DUTY (R25, R81). -/
def dutyByte (s : State) : Byte := s.duty

/-- The byte at CNT (R26, R82). -/
def cntByte (s : State) : Byte := s.cnt

/-- The byte an unmapped offset reads as (R27, R83). -/
def unmappedByte : Byte := 0x00#8

/-- `HostRead(off)`: the byte the window holds at each offset (R34, R39). -/
def hostRead (off : Offset) (s : State) : Byte :=
  if off = 0#3 then ctrlByte s
  else if off = 1#3 then statusByte s
  else if off = 2#3 then dutyByte s
  else if off = 3#3 then cntByte s
  else unmappedByte

end Sys2Proof.Machine
end

