-- ==== Sys2Proof/Machine/Ops.lean ====
section
/-! DEFINITION. The shared operations: performing an operation, returning a byte to the host, a host write, the
steps of a periodic event, and RESET (spec 20_memory.md R34, 40_event.md R57 to R66, 70_reset_and_hazards.md R101). -/

namespace Sys2Proof.Machine

/-- What a step answers. -/
abbrev Result := Host.Outcome State Fault Refusal

/-! ## Performing an operation -/

/-- The state with no byte on `host_rdata` (R65: no host read data). -/
def quiet (s : State) : State := { s with rdata := none }

/-- An operation that needs no earlier RESET: refused where there is no such instance (R9), else performed. -/
def performAlways (s : State) (f : State → State) : Result :=
  if s.cfg.wf then .next (f (quiet s)) else .refused .noInstance

/-- An operation other than RESET: refused too while `was_reset` is false (R32, R102). -/
def perform (s : State) (f : State → State) : Result :=
  if s.cfg.wf then
    if s.wasReset then .next (f (quiet s)) else .refused .notReset
  else .refused .noInstance

/-- A READ returns the byte `b` on `host_rdata` and writes no register (R43, R79 to R83). -/
def returnByte (b : Byte) (s : State) : State := { s with rdata := some b }

/-! ## Host writes -/

/-- `en <- 1` (R72). -/
def setEnable (s : State) : State := { s with en := 1#1 }

/-- The illegal host write: the byte is discarded and HOST_ACCESS is raised (R71, R90). -/
def illegalWrite (s : State) : State := raise .hostAccess s

/-- `HostWrite(off, byte)`: the effect of a write at each offset (R34, R71 to R78). -/
def hostWrite (off : Offset) (data : Byte) (s : State) : State :=
  if off = 0#3 then
    if data = 0x01#8 then setEnable s
    else if data = 0x00#8 then s
    else illegalWrite s
  else illegalWrite s

/-! ## The periodic event -/

/-- `c1 = zext(cnt) + 1` (R58). -/
def nextCount (s : State) : Nat := s.cnt.toNat + 1

/-- `d = zext(duty) + dirval(dir)`, an integer (R59). -/
def nextDuty (s : State) : Int := (s.duty.toNat : Int) + dirval s.dir

/-- `duty <- (d mod 256)[7:0]`, unconditional and unclamped; it drives `pw_out` (R59). -/
def writeDuty (d : Int) (s : State) : State := { s with duty := BitVec.ofInt 8 d }

/-- The range check (R61). -/
def checkRange (d : Int) (s : State) : State := raiseIf (outOfRange s.cfg d) .dutyRange s

/-- The boundary check: at or above `MAX` to FALLING and companion off, else at or below 0 to RISING and companion
on, else no transition (R63, R64). -/
def boundaryCheck (d : Int) (s : State) : State :=
  if d ≥ s.cfg.max then { s with dir := 1#1, comp := 0#1 }
  else if d ≤ 0 then { s with dir := 0#1, comp := 1#1 }
  else s

/-- `cnt <- v`. -/
def writeCnt (v : Byte) (s : State) : State := { s with cnt := v }

/-- The threshold step: at the threshold the counter is cleared and the boundary check runs, else the counter takes
`c1 mod 256` (R62). -/
def thresholdStep (c1 : Nat) (d : Int) (s : State) : State :=
  if c1 = s.cfg.threshold then boundaryCheck d (writeCnt 0x00#8 s)
  else writeCnt (BitVec.ofNat 8 c1) s

/-- `on_periodic_event()`: one enabled event (R57, R60). Both locals are read from the state before the operation. -/
def periodicEvent (s : State) : State :=
  thresholdStep (nextCount s) (nextDuty s) (checkRange (nextDuty s) (writeDuty (nextDuty s) s))

/-- TICK's state change: the event where `en = 1`, nothing where `en = 0` (R57, R66). -/
def tickEvent (s : State) : State := if s.en = 0#1 then s else periodicEvent s

/-! ## RESET -/

/-- RESET's writes, whatever the state before (R101). -/
def resetWrites (s : State) : State :=
  { s with
    duty := 0x00#8
    dir := 0#1
    cnt := 0x00#8
    comp := 1#1
    en := 0#1
    err := resetErr s.cfg
    wasReset := true }

end Sys2Proof.Machine
end

