-- ==== Sys2Proof/Machine/HostReads.lean ====
section
/-! DEFINITION. The host reads (spec 41_host.md R79 to R83). -/

namespace Sys2Proof.Machine

/-- RD_CTRL (R79). -/
def execRdCtrl (s : State) : Result := perform s fun t => returnByte (ctrlByte t) t

/-- RD_STATUS (R80). -/
def execRdStatus (s : State) : Result := perform s fun t => returnByte (statusByte t) t

/-- RD_DUTY (R81). -/
def execRdDuty (s : State) : Result := perform s fun t => returnByte (dutyByte t) t

/-- RD_CNT (R82). -/
def execRdCnt (s : State) : Result := perform s fun t => returnByte (cntByte t) t

/-- RD_UNMAPPED (R83). -/
def execRdUnmapped (_off : Offset) (s : State) : Result := perform s (returnByte unmappedByte)

end Sys2Proof.Machine
end

