-- ==== Sys2Proof/Machine/HostWrites.lean ====
section
/-! DEFINITION. The host writes (spec 41_host.md R71 to R78). -/

namespace Sys2Proof.Machine

/-- ENABLE (R72). -/
def execEnable (s : State) : Result := perform s setEnable

/-- WR_CTRL_ZERO: no register is written; EN is not cleared (R73). -/
def execWrCtrlZero (s : State) : Result := perform s fun t => t

/-- WR_CTRL_RSV: the whole write is ignored, its bit 0 too (R74). -/
def execWrCtrlRsv (_data : Byte) (s : State) : Result := perform s illegalWrite

/-- WR_STATUS: no flag is cleared by writing it (R75). -/
def execWrStatus (_data : Byte) (s : State) : Result := perform s illegalWrite

/-- WR_DUTY: `duty` is unchanged (R76). -/
def execWrDuty (_data : Byte) (s : State) : Result := perform s illegalWrite

/-- WR_CNT: `cnt` is unchanged (R77). -/
def execWrCnt (_data : Byte) (s : State) : Result := perform s illegalWrite

/-- WR_UNMAPPED (R78). -/
def execWrUnmapped (_off : Offset) (_data : Byte) (s : State) : Result := perform s illegalWrite

end Sys2Proof.Machine
end

