-- ==== Sys2Proof/Machine/ResetOp.lean ====
section
/-! DEFINITION. The RESET operation (spec 70_reset_and_hazards.md R101). -/

namespace Sys2Proof.Machine

/-- RESET: performed in every state of an instance, before the first RESET too (R101, R102). -/
def execReset (s : State) : Result := performAlways s resetWrites

end Sys2Proof.Machine
end

