-- ==== Sys2Proof/Machine/Tick.lean ====
section
/-! DEFINITION. The periodic-event operation (spec 40_event.md). -/

namespace Sys2Proof.Machine

/-- TICK (R57, R66). -/
def execTick (s : State) : Result := perform s tickEvent

end Sys2Proof.Machine
end

