-- ==== Sys2Proof/Machine/Dispatch.lean ====
section
/-! DEFINITION. One arm per operation. -/

namespace Sys2Proof.Machine

/-- The meaning of each operation. -/
def exec (i : Instr) (s : State) : Host.Outcome State Fault Refusal :=
  match i with
  | .tick => Sys2Proof.Machine.execTick s
  | .enable => Sys2Proof.Machine.execEnable s
  | .wrCtrlZero => Sys2Proof.Machine.execWrCtrlZero s
  | .wrCtrlRsv data => Sys2Proof.Machine.execWrCtrlRsv data s
  | .wrStatus data => Sys2Proof.Machine.execWrStatus data s
  | .wrDuty data => Sys2Proof.Machine.execWrDuty data s
  | .wrCnt data => Sys2Proof.Machine.execWrCnt data s
  | .wrUnmapped off data => Sys2Proof.Machine.execWrUnmapped off data s
  | .rdCtrl => Sys2Proof.Machine.execRdCtrl s
  | .rdStatus => Sys2Proof.Machine.execRdStatus s
  | .rdDuty => Sys2Proof.Machine.execRdDuty s
  | .rdCnt => Sys2Proof.Machine.execRdCnt s
  | .rdUnmapped off => Sys2Proof.Machine.execRdUnmapped off s
  | .reset => Sys2Proof.Machine.execReset s

end Sys2Proof.Machine
end

