-- ==== Sys2Proof/Machine/Fetch.lean ====
section
/-! DEFINITION. How an operation reaches the block. The block fetches no instructions (spec 20_memory.md R42): the
timer, the host and the reset line present operations, which form one total order (R40). State holds the presented
words in that order (log entry 2). -/

namespace Sys2Proof.Machine

/-- The oldest presented word, and the state without it; none where nothing is presented. -/
def fetch (s : State) : Option (OpWord × State) :=
  match s.input with
  | [] => none
  | w :: rest => some (w, { s with input := rest })

/-- One operation word: decoded and performed, or refused as `InvalidWord` (R49, R50). -/
def execWord (w : OpWord) (s : State) : Result :=
  match decode w with
  | .ok i => exec i s
  | .error .invalidWord => .refused .invalidWord

/-- A step with nothing presented: no operation, so no register changes and no byte is returned (R55;
DESIGN CHOICE, log entry 4). -/
def idle (s : State) : Result := .next (quiet s)

/-- A word placed where the next step takes its operation from. -/
def presentNext (w : OpWord) (s : State) : State := { s with input := w :: s.input }

/-- Words presented after all that are already waiting (R40). -/
def present (ws : List OpWord) (s : State) : State := { s with input := s.input ++ ws }

end Sys2Proof.Machine
end

