-- ==== Sys2Proof/Machine/Step.lean ====
section
/-! DEFINITION. One step: exactly one operation (spec 00_scope.md R13). -/

namespace Sys2Proof.Machine

/-- One step: the oldest presented operation is performed (R13, R40). -/
def step (s : State) : Host.Outcome State Fault Refusal :=
  match fetch s with
  | none => idle s
  | some (w, t) => execWord w t

/-- `s` with a number of the opcode table presented as the next operation (log entries 2 and 7). -/
def State.withFetchWord (s : State) (nbits w : Nat) : State := presentNext (tableWord nbits w) s

end Sys2Proof.Machine
end

