-- ==== Sys2Proof/Machine/Asm.lean ====
section
/-! DEFINITION. The syntax of an operation sequence (spec 30_encoding.md R53) and the pseudo-instructions (R54).
What R53 leaves open about the text is in log entry 11. -/

namespace Sys2Proof.Machine

/-- A line of an operation sequence (R53, R54). -/
inductive AsmLine where
  /-- `TICK` -/
  | tick
  /-- `RESET` -/
  | reset
  /-- `RD off` -/
  | rd (off : Offset)
  /-- `WR off, data` -/
  | wr (off : Offset) (data : Byte)
  /-- `ENABLE`, which expands to `WR CTRL, 0x01` -/
  | enable
  /-- `TICKS n`, which expands to `n` copies of `TICK` -/
  | ticks (n : Nat)
  /-- `IDLE`, which expands to nothing -/
  | idle
  /-- `BOOT`, which expands to `RESET` followed by `ENABLE` -/
  | boot
  /-- an empty line or a comment -/
  | blank
  deriving DecidableEq, Repr

/-- The words of a line, each `{K, A, D}` (R53, R54). -/
def AsmLine.words : AsmLine → List OpWord
  | .tick => [packWord Kind.tick.code 0#3 0#8]
  | .reset => [packWord Kind.reset.code 0#3 0#8]
  | .rd off => [packWord Kind.read.code off 0#8]
  | .wr off data => [packWord Kind.write.code off data]
  | .enable => [packWord Kind.write.code 0#3 0x01#8]
  | .ticks n => List.replicate n (packWord Kind.tick.code 0#3 0#8)
  | .idle => []
  | .boot => [packWord Kind.reset.code 0#3 0#8, packWord Kind.write.code 0#3 0x01#8]
  | .blank => []

/-- The value of a digit in a base, none where the character is no digit of it. -/
def digitValue (base : Nat) (c : Char) : Option Nat :=
  let v :=
    if '0'.toNat ≤ c.toNat ∧ c.toNat ≤ '9'.toNat then c.toNat - '0'.toNat
    else if 'a'.toNat ≤ c.toNat ∧ c.toNat ≤ 'f'.toNat then c.toNat - 'a'.toNat + 10
    else if 'A'.toNat ≤ c.toNat ∧ c.toNat ≤ 'F'.toNat then c.toNat - 'A'.toNat + 10
    else base
  if v < base then some v else none

/-- The number a run of digits spells, on top of what was read before. -/
def readDigits (base : Nat) : Nat → List Char → Option Nat
  | acc, [] => some acc
  | acc, c :: cs =>
    match digitValue base c with
    | some v => readDigits base (acc * base + v) cs
    | none => none

/-- A number in decimal, `0x` hexadecimal or `0b` binary (R53). -/
def readNumber : List Char → Option Nat
  | [] => none
  | ['0', 'x'] => none
  | ['0', 'b'] => none
  | '0' :: 'x' :: cs => readDigits 16 0 cs
  | '0' :: 'b' :: cs => readDigits 2 0 cs
  | cs => readDigits 10 0 cs

/-- `<off>`: one of the four names, or a number 0 to 7 (R53). -/
def readOffset (t : List Char) : Option Offset :=
  if t = ['C', 'T', 'R', 'L'] then some 0#3
  else if t = ['S', 'T', 'A', 'T', 'U', 'S'] then some 1#3
  else if t = ['D', 'U', 'T', 'Y'] then some 2#3
  else if t = ['C', 'N', 'T'] then some 3#3
  else
    match readNumber t with
    | some n => if n ≤ 7 then some (BitVec.ofNat 3 n) else none
    | none => none

/-- `<data>`: a number 0 to 255 (R53). -/
def readData (t : List Char) : Option Byte :=
  match readNumber t with
  | some n => if n ≤ 255 then some (BitVec.ofNat 8 n) else none
  | none => none

/-- The characters before a comment (R53: `;` starts a comment). -/
def dropComment (cs : List Char) : List Char := cs.takeWhile (· ≠ ';')

/-- A character in front of the tokens read so far: white space ends a token and a comma is a token of its own. The
first list is the token being read. -/
def splitTokens : List Char → List (List Char)
  | [] => [[]]
  | c :: cs =>
    match splitTokens cs with
    | [] => []
    | t :: ts =>
      if c = ' ' ∨ c = '\t' ∨ c = '\r' then [] :: t :: ts
      else if c = ',' then [] :: [','] :: t :: ts
      else (c :: t) :: ts

/-- The tokens of a line, without the empty ones. -/
def tokens (cs : List Char) : List (List Char) := (splitTokens (dropComment cs)).filter (· ≠ [])

/-- One line (R53, R54); none where it is no line of the syntax. -/
def parseLine (cs : List Char) : Option AsmLine :=
  match tokens cs with
  | [] => some .blank
  | [m] =>
    if m = ['T', 'I', 'C', 'K'] then some .tick
    else if m = ['R', 'E', 'S', 'E', 'T'] then some .reset
    else if m = ['E', 'N', 'A', 'B', 'L', 'E'] then some .enable
    else if m = ['I', 'D', 'L', 'E'] then some .idle
    else if m = ['B', 'O', 'O', 'T'] then some .boot
    else none
  | [m, a] =>
    if m = ['R', 'D'] then (readOffset a).map .rd
    else if m = ['T', 'I', 'C', 'K', 'S'] then (readNumber a).map .ticks
    else none
  | [m, a, comma, d] =>
    if m = ['W', 'R'] ∧ comma = [','] then
      match readOffset a, readData d with
      | some off, some data => some (.wr off data)
      | _, _ => none
    else none
  | _ => none

/-- The lines of a text. -/
def splitLines : List Char → List (List Char)
  | [] => [[]]
  | c :: cs =>
    match splitLines cs with
    | [] => []
    | l :: ls => if c = '\n' then [] :: l :: ls else (c :: l) :: ls

/-- The words of parsed lines, none if some line did not parse. -/
def lineWords : List (Option AsmLine) → Option (List OpWord)
  | [] => some []
  | none :: _ => none
  | some l :: ls =>
    match lineWords ls with
    | some ws => some (l.words ++ ws)
    | none => none

/-- The words of an operation sequence, one operation a line (R53). -/
def assemble (text : List Char) : Option (List OpWord) := lineWords ((splitLines text).map parseLine)

end Sys2Proof.Machine
end

