-- ==== Sys2Proof/Machine/Ports.lean ====
section
/-! DEFINITION. The ports and the clock cycle: what one rising edge of `clk` presents, and in what order it is
performed (spec 30_encoding.md R43, R55; 60_exceptions.md R95; 10_state.md R22). -/

namespace Sys2Proof.Machine

/-! ## Running several operations -/

/-- The result of a first operation handed to a second; a stop stays a stop. -/
def andThen (r : Result) (f : State → Result) : Result :=
  match r with
  | .next s => f s
  | .fault e => .fault e
  | .refused e => .refused e

/-- Operations one after another: each sees the state the one before left (R40). -/
def runOps : List Instr → State → Result
  | [], s => .next s
  | i :: is, s => andThen (exec i s) (runOps is)

/-- Operation words one after another. -/
def runWords : List OpWord → State → Result
  | [], s => .next s
  | w :: ws, s => andThen (execWord w s) (runWords ws)

/-! ## Inputs -/

/-- The input ports in one clock cycle (R43). -/
structure Inputs where
  rst : Bool
  tick : Bool
  hostWr : Bool
  hostRd : Bool
  hostOff : Offset
  hostWdata : Byte
  deriving DecidableEq, Repr

/-- Step (a) of R55: the READ of the cycle, before the cycle's other operations. -/
def Inputs.readOps (c : Inputs) : List Instr := if c.hostRd then [readInstr c.hostOff] else []

/-- Steps (b) and (c) of R55: the TICK, then the WRITE. -/
def Inputs.updateOps (c : Inputs) : List Instr :=
  (if c.tick then [.tick] else []) ++ (if c.hostWr then [writeInstr c.hostOff c.hostWdata] else [])

/-- The operations of a cycle in their order; `rst` overrides all (R55, R95). -/
def Inputs.ops (c : Inputs) : List Instr := if c.rst then [.reset] else c.readOps ++ c.updateOps

/-- The words that encode the operations of a cycle (R45: a word encodes what the ports present). -/
def Inputs.words (c : Inputs) : List OpWord := c.ops.map encode

/-- The cycle's operations presented to the block. -/
def presentCycle (c : Inputs) (s : State) : State := present c.words s

/-- One whole clock cycle. `host_rdata` at its end is the byte its READ returned, if it had one (R43, R55;
DESIGN CHOICE, log entry 9). -/
def clockCycle (c : Inputs) (s : State) : Result :=
  if c.rst then exec .reset s
  else
    andThen (runOps c.readOps (quiet s)) fun r =>
      andThen (runOps c.updateOps r) fun t => .next { t with rdata := r.rdata }

/-- Clock cycles one after another. -/
def runCycles : List Inputs → State → Result
  | [], s => .next s
  | c :: cs, s => andThen (clockCycle c s) (runCycles cs)

/-! ## Outputs -/

/-- The output ports (R43). `hostRdata` is none where no READ was performed. -/
structure Outputs where
  pwOut : Byte
  compOut : Bit
  errOut : BitVec 3
  hostRdata : Option Byte
  deriving DecidableEq, Repr

/-- The outputs, driven from the registers; none has a copy of its own (R22). -/
def outputs (s : State) : Outputs where
  pwOut := s.duty
  compOut := s.comp
  errOut := s.err
  hostRdata := s.rdata

/-! ## The platform's OPEN parameters (log entry 10) -/

/-- The electrical level of the companion line: `COMP_ON_LEVEL` while `comp_out` is on (R20, D6). -/
def compLineLevel (s : State) : Config.Level :=
  if (outputs s).compOut = 1#1 then Config.compOnLevel else Config.compOnLevel.other

/-- The offset a byte address of the platform selects, none outside the window at `HOST_BASE` (R35, R39, D22). -/
def windowOffset (addr : Nat) : Option Offset :=
  if Config.hostBase ≤ addr ∧ addr < Config.hostBase + 8 then some (BitVec.ofNat 3 (addr - Config.hostBase))
  else none

/-- The block's byte on a wider bus is on data lines [7:0] (R35, D22). -/
def laneByte (n : Nat) (data : BitVec n) : Byte := data.extractLsb' 0 8

end Sys2Proof.Machine
end

