-- ==== Sys2Proof/Safety.lean ====
section
/-! DEFINITION. What a run is and when it is good (spec 60_exceptions.md R91, 70_reset_and_hazards.md R112), how its
events are counted, and the closed form of the ramp (10_state.md R30, R31). -/

namespace Sys2Proof.Machine

/-! ## Runs -/

/-- The block is a well-formed instance that has been reset (R9, R32): every operation is performed. -/
abbrev Operable (s : State) : Prop := s.cfg.wf = true ∧ s.wasReset = true

/-- The five illegal host writes (R71). -/
def illegalInstr : Instr → Bool
  | .tick => false
  | .enable => false
  | .wrCtrlZero => false
  | .wrCtrlRsv _ => true
  | .wrStatus _ => true
  | .wrDuty _ => true
  | .wrCnt _ => true
  | .wrUnmapped _ _ => true
  | .rdCtrl => false
  | .rdStatus => false
  | .rdDuty => false
  | .rdCnt => false
  | .rdUnmapped _ => false
  | .reset => false

/-- A faulted state: some fault flag is set (R91). It is never a good state. -/
def State.faulted (s : State) : Bool := s.err ≠ 0b000#3

/-- A run starts with RESET (R112). -/
def startsWithReset : List OpWord → Bool
  | [] => false
  | w :: _ => decide (decode w = .ok .reset)

/-- A run of the words `ws` from `s` that starts with RESET, is refused nowhere, and ends in `t` (R112). The states
such runs end in are the states reachable from RESET. -/
def RunFromReset (ws : List OpWord) (s t : State) : Prop :=
  startsWithReset ws = true ∧ runWords ws s = .next t

/-- A good run: it starts with RESET, nothing was refused, and `err` is 0 at its end (R112). -/
def GoodRun (ws : List OpWord) (s : State) : Prop :=
  ∃ t, RunFromReset ws s t ∧ t.faulted = false

/-- What is observed of a run: the state after each operation, which carries the byte of a READ (R112). It ends where
an operation is refused. -/
def observe : List OpWord → State → List State
  | [], _ => []
  | w :: ws, s =>
    match execWord w s with
    | .next t => t :: observe ws t
    | _ => []

/-- The count of enabled TICKs since the last RESET, after one more word (R30, R31: `n`). -/
def countEvent (w : OpWord) (s : State) (n : Nat) : Nat :=
  match decode w with
  | .ok .tick => if s.en = 0#1 then n else n + 1
  | .ok .reset => 0
  | _ => n

/-- The count of enabled TICKs since the last RESET at the end of a run, from `n` at its start (R30, R31). -/
def countEvents : List OpWord → State → Nat → Nat
  | [], _, n => n
  | w :: ws, s, n =>
    match execWord w s with
    | .next t => countEvents ws t (countEvent w s n)
    | _ => n

/-- `n` TICKs in a row, as a state change. -/
def ticks : Nat → State → State
  | 0, s => s
  | n + 1, s => ticks n (tickEvent (quiet s))

/-! ## The closed form of the ramp -/

/-- `P = ceil(MAX / T) * T`, the highest duty value (R31). -/
def rampPeak (p : Config.Params) : Nat := (p.max + p.threshold - 1) / p.threshold * p.threshold

/-- `k = n mod 2P` (R31). -/
def rampPhase (p : Config.Params) (n : Nat) : Nat := n % (2 * rampPeak p)

/-- `duty` after `n` events: `k` up to `P`, then `2P - k` (R31). -/
def rampDuty (p : Config.Params) (n : Nat) : Nat :=
  if rampPhase p n ≤ rampPeak p then rampPhase p n else 2 * rampPeak p - rampPhase p n

/-- `cnt` after `n` events (R31). -/
def rampCnt (p : Config.Params) (n : Nat) : Nat := n % p.threshold

/-- `dir` after `n` events (R31). -/
def rampDir (p : Config.Params) (n : Nat) : Bit := if rampPhase p n < rampPeak p then 0#1 else 1#1

/-- `comp` after `n` events: `1 - dir` (R29, R31). -/
def rampComp (p : Config.Params) (n : Nat) : Bit := 1#1 - rampDir p n

/-- Whether DUTY_RANGE is set after `n` events: `T` does not divide `MAX` and event `MAX + 1` has happened
(R31, R89). -/
def rampRangeFault (p : Config.Params) (n : Nat) : Bool :=
  decide (¬ p.threshold ∣ p.max) && decide (p.max + 1 ≤ n)

/-- The state agrees with the closed form at `n` events (R31), and its DUTY_RANGE and CFG_MISMATCH flags are those
of R88 and R89. It says nothing of `en`, HOST_ACCESS and the model's own fields. -/
structure OnRamp (s : State) (n : Nat) : Prop where
  duty : s.duty.toNat = rampDuty s.cfg n
  cnt : s.cnt.toNat = rampCnt s.cfg n
  dir : s.dir = rampDir s.cfg n
  comp : s.comp = rampComp s.cfg n
  range : s.flag .dutyRange = rampRangeFault s.cfg n
  mismatch : s.flag .cfgMismatch = decide (s.cfg.max ≠ s.cfg.threshold)

/-- The invariant of every state a run from RESET reaches: a well-formed instance that has been reset and stands
somewhere on its ramp (R29 to R31, R68). -/
def RampInv (s : State) : Prop :=
  s.cfg.wf = true ∧ s.wasReset = true ∧ ∃ n, OnRamp s n

/-- The stored counter of a well-formed instance is 0 to `THRESHOLD - 1` (R18). -/
def CounterBelow (s : State) : Prop := s.cfg.wf = true ∧ s.cnt.toNat < s.cfg.threshold

/-- `err[0]` is 1 exactly in a mismatched instance (R21, R88). -/
def MismatchFlagged (s : State) : Prop := s.flag .cfgMismatch = decide (s.cfg.max ≠ s.cfg.threshold)

/-- The word is one of a legal operation: it is valid and no illegal host write (R51). -/
def LegalWord (w : OpWord) : Prop := ∃ i, decode w = .ok i ∧ illegalInstr i = false

/-- A matched instance on its ramp with no fault flag set, for which only legal words wait (R91). -/
def LegalUnfaulted (s : State) : Prop :=
  RampInv s ∧ s.cfg.matched = true ∧ s.faulted = false ∧ ∀ w ∈ s.input, LegalWord w

/-- The companion mirrors the direction: `comp = 1 - dir` (R29). -/
def CompanionMirror (s : State) : Prop := s.comp = 1#1 - s.dir

end Sys2Proof.Machine
end

