-- ==== Sys2Proof/Certificates/Slice0/Obligations.lean ====
section
/-! DEFINITION. The statements for the provers. A docstring names the rule of spec/ a statement formalises. -/

open Sys2Proof Sys2Proof.Machine

/-! ## Encoding -/

/-- R45, R49: decoding the word of a well-formed operation gives it back. -/
def Obligations.DecodeOfEncode : Prop :=
  ∀ i : Instr, i.wf = true → decode (encode i) = .ok i

/-- R45, R49: a word that decodes is the one word of a well-formed operation. -/
def Obligations.EncodeOfDecode : Prop :=
  ∀ (w : OpWord) (i : Instr), decode w = .ok i → i.wf = true ∧ encode i = w

/-- R49: the pseudocode and the match/mask table are the same map. -/
def Obligations.DecodeAgreesWithMatchMaskTable : Prop :=
  ∀ w : OpWord, decode w = decodeByTable w

/-- R46: field K selects the kind, and all four values are assigned. -/
def Obligations.FieldKSelectsKind : Prop :=
  (∀ (w : OpWord) (i : Instr), decode w = .ok i →
    fieldK w = i.kind.code ∧ w.extractLsb' 11 2 = i.kind.code) ∧
  Kind.tick.code = 0b00#2 ∧ Kind.write.code = 0b01#2 ∧ Kind.read.code = 0b10#2 ∧ Kind.reset.code = 0b11#2 ∧
  ∀ k : BitVec 2, ∃ (w : OpWord) (i : Instr), decode w = .ok i ∧ fieldK w = k

/-- R50: which words are invalid; an invalid word is refused, reset or not; no clock cycle presents one. That the
refusal reported is `invalidWord` before the first RESET and in an ill-formed instance too, where R50 lets either
refusal be reported, is the model's choice (log entry 6). -/
def Obligations.InvalidWordsRefused : Prop :=
  (∀ w : OpWord,
    decode w = .error .invalidWord ↔
      ((fieldK w = 0b00#2 ∨ fieldK w = 0b11#2) ∧ (fieldA w ≠ 0#3 ∨ fieldD w ≠ 0#8)) ∨
        (fieldK w = 0b10#2 ∧ fieldD w ≠ 0#8)) ∧
  (∀ (w : OpWord) (s : State), decode w = .error .invalidWord →
    step (presentNext w s) = .refused .invalidWord) ∧
  ∀ (c : Inputs) (w : OpWord), w ∈ c.words → ∃ i, decode w = .ok i

/-- R49: words written out from the table of encodings decode to their operations. -/
def Obligations.SampleWordsDecode : Prop :=
  decode 0b00_000_00000000#13 = .ok .tick ∧
  decode 0b01_000_00000001#13 = .ok .enable ∧
  decode 0b01_000_10000001#13 = .ok (.wrCtrlRsv 0x81#8) ∧
  decode 0b01_101_11111111#13 = .ok (.wrUnmapped 5#3 0xFF#8) ∧
  decode 0b10_001_00000000#13 = .ok .rdStatus ∧
  decode 0b11_000_00000000#13 = .ok .reset

/-! ## The step -/

/-- R13, R40: a step performs the oldest presented word's operation, on the state without that word. Words waiting
in State are the model's form of the total order (log entry 2). -/
def Obligations.StepRunsDecodedOperation : Prop :=
  ∀ (s : State) (w : OpWord) (ws : List OpWord) (i : Instr),
    s.input = w :: ws → decode w = .ok i → i.wf = true → step s = exec i { s with input := ws }

/-- The model's choice (log entry 4): with nothing presented a step changes no register and returns no byte. -/
def Obligations.StepIdlesWithNothingPresented : Prop :=
  ∀ s : State, s.input = [] → step s = .next { s with rdata := none }

/-- A word of the opcode table placed for the next step is what that step performs (log entries 2 and 7). -/
def Obligations.PlacedWordRunsNext : Prop :=
  ∀ (s : State) (i : Instr), i.wf = true → step (s.withFetchWord 16 (encode i).toNat) = exec i s

/-- R40, R13: as many steps as words perform the words one after another, and nothing else. -/
def Obligations.StepsPerformPresentedWords : Prop :=
  ∀ (ws : List OpWord) (s : State),
    Host.Core.run Sys2Proof.core ws.length (present ws { s with input := [] }) =
      runWords ws { s with input := [] }

/-- The model's own fields: no operation changes the parameters in `cfg` (log entry 1) or the words still waiting in
`input` (log entry 2). R32: after any operation that is performed, `was_reset` is true. -/
def Obligations.ParametersAndInputUntouched : Prop :=
  ∀ (i : Instr) (s t : State), exec i s = .next t →
    t.cfg = s.cfg ∧ t.input = s.input ∧ t.wasReset = true

/-- R57, R86, R92: in an operable block every operation completes, and leaves the block operable. -/
def Obligations.OperableBlockPerformsEveryOperation : Prop :=
  ∀ (i : Instr) (s : State), Operable s → ∃ t, exec i s = .next t ∧ Operable t

/-! ## TICK -/

/-- R59, R61, R63, R64: an enabled TICK, every register. `d` is the new duty value and `c1` the incremented counter.
The two branches of the boundary check exclude each other. -/
def Obligations.EnabledTickResult : Prop :=
  ∀ (s : State) (d : Int) (c1 : Nat), Operable s → s.en = 1#1 →
    d = (s.duty.toNat : Int) + (if s.dir = 0#1 then 1 else -1) → c1 = s.cnt.toNat + 1 →
    exec .tick s = .next { s with
      duty := BitVec.ofInt 8 (d % 256)
      cnt := if c1 = s.cfg.threshold then 0x00#8 else BitVec.ofNat 8 (c1 % 256)
      dir :=
        if c1 = s.cfg.threshold then
          if d ≥ s.cfg.max then 1#1 else if d ≤ 0 then 0#1 else s.dir
        else s.dir
      comp :=
        if c1 = s.cfg.threshold then
          if d ≥ s.cfg.max then 0#1 else if d ≤ 0 then 1#1 else s.comp
        else s.comp
      err := if d < 0 ∨ d > s.cfg.max then s.err ||| 0b010#3 else s.err
      rdata := none } ∧
    ¬ (d ≥ s.cfg.max ∧ d ≤ 0)

/-- R66: a TICK with `en = 0` writes no register, and enabling afterwards does not replay it. -/
def Obligations.MaskedTickDiscarded : Prop :=
  decode 0x0000#13 = .ok .tick ∧
  ∀ s : State, Operable s → s.en = 0#1 →
    exec .tick s = .next { s with rdata := none } ∧
    runOps [.tick, .enable] s = exec .enable s

/-- R65: what TICK leaves unchanged. -/
def Obligations.TickFrame : Prop :=
  ∀ s t : State, exec .tick s = .next t →
    t.en = s.en ∧ t.flag .cfgMismatch = s.flag .cfgMismatch ∧ t.flag .hostAccess = s.flag .hostAccess ∧
    (s.flag .dutyRange = true → t.flag .dutyRange = true) ∧
    t.wasReset = s.wasReset ∧ t.cfg = s.cfg ∧ t.input = s.input ∧ t.rdata = none

/-- R70: the state-machine view, row by row. -/
def Obligations.DirectionStateMachine : Prop :=
  ∀ s t : State, s.en = 1#1 → exec .tick s = .next t →
    (s.dir = 0#1 → (t.dir = 1#1 ↔ nextCount s = s.cfg.threshold ∧ nextDuty s ≥ s.cfg.max)) ∧
    (s.dir = 1#1 → (t.dir = 0#1 ↔ nextCount s = s.cfg.threshold ∧ nextDuty s ≤ 0))

/-! ## Host writes -/

/-- R72: ENABLE sets `en` and nothing else. -/
def Obligations.EnableResult : Prop :=
  decode 0x0801#13 = .ok .enable ∧
  ∀ s : State, Operable s → exec .enable s = .next { s with en := 1#1, rdata := none }

/-- R73: WR_CTRL_ZERO writes no register. -/
def Obligations.CtrlZeroWritesNothing : Prop :=
  decode 0x0800#13 = .ok .wrCtrlZero ∧
  ∀ s : State, Operable s → exec .wrCtrlZero s = .next { s with rdata := none }

/-- R71: each of the five illegal host writes sets `err[2]` and changes no other register, whatever its byte. -/
def Obligations.IllegalWritesOnlyRaiseHostAccess : Prop :=
  ∀ (s : State) (off : Offset) (data : Byte), Operable s →
    exec (.wrCtrlRsv data) s = .next { s with err := s.err ||| 0b100#3, rdata := none } ∧
    exec (.wrStatus data) s = .next { s with err := s.err ||| 0b100#3, rdata := none } ∧
    exec (.wrDuty data) s = .next { s with err := s.err ||| 0b100#3, rdata := none } ∧
    exec (.wrCnt data) s = .next { s with err := s.err ||| 0b100#3, rdata := none } ∧
    exec (.wrUnmapped off data) s = .next { s with err := s.err ||| 0b100#3, rdata := none }

/-- R34: HostRead and HostWrite are one READ or WRITE word each, at every offset and for every byte. -/
def Obligations.HostPrimitivesAreOneOperation : Prop :=
  ∀ (off : Offset) (data : Byte) (s : State), Operable s →
    execWord (packWord 0b10#2 off 0x00#8) s = .next { s with rdata := some (hostRead off s) } ∧
    execWord (packWord 0b01#2 off data) s = .next (hostWrite off data { s with rdata := none })

/-- R23: CTRL. A write of 1 sets EN, of 0 has no effect, of a reserved bit is illegal; a read returns `en` in bit 0
and zeros; the reset value is 0. -/
def Obligations.CtrlRegisterAccess : Prop :=
  (∀ (s : State) (data : Byte), Operable s →
    execWord (packWord 0b01#2 0#3 data) s =
      .next { s with
        en := if data = 0x01#8 then 1#1 else s.en
        err := if data.extractLsb' 1 7 ≠ 0#7 then s.err ||| 0b100#3 else s.err
        rdata := none }) ∧
  (∀ s t : State, execWord (packWord 0b10#2 0#3 0x00#8) s = .next t →
    ∃ b : Byte, t.rdata = some b ∧ b.extractLsb' 0 1 = s.en ∧ b.extractLsb' 1 7 = 0#7) ∧
  ∀ s t : State, exec .reset s = .next t → hostRead 0#3 t = 0x00#8

/-! ## Host reads -/

/-- R79 to R83: each READ returns its register's byte and changes no register. -/
def Obligations.ReadsReturnTheirByte : Prop :=
  decode 0x1000#13 = .ok .rdCtrl ∧ decode 0x1100#13 = .ok .rdStatus ∧ decode 0x1200#13 = .ok .rdDuty ∧
  decode 0x1300#13 = .ok .rdCnt ∧ decode 0x1400#13 = .ok (.rdUnmapped 4#3) ∧
  decode 0x1500#13 = .ok (.rdUnmapped 5#3) ∧ decode 0x1600#13 = .ok (.rdUnmapped 6#3) ∧
  decode 0x1700#13 = .ok (.rdUnmapped 7#3) ∧
  ∀ (s : State) (off : Offset), Operable s →
    exec .rdCtrl s = .next { s with rdata := some (0b0000000#7 ++ s.en) } ∧
    exec .rdStatus s = .next { s with rdata := some (0b000#3 ++ s.err ++ s.dir ++ s.comp) } ∧
    exec .rdDuty s = .next { s with rdata := some (outputs s).pwOut } ∧
    exec .rdCnt s = .next { s with rdata := some s.cnt } ∧
    exec (.rdUnmapped off) s = .next { s with rdata := some 0x00#8 }

/-- R24: STATUS. The fields of the byte read, the byte after RESET, and an illegal write whatever the byte. -/
def Obligations.StatusRegisterAccess : Prop :=
  (∀ s t : State, execWord (packWord 0b10#2 1#3 0x00#8) s = .next t →
    ∃ b : Byte, t.rdata = some b ∧
      b.extractLsb' 0 1 = s.comp ∧ b.extractLsb' 1 1 = s.dir ∧
      b.getLsbD 2 = s.flag .cfgMismatch ∧ b.getLsbD 3 = s.flag .dutyRange ∧ b.getLsbD 4 = s.flag .hostAccess ∧
      b.extractLsb' 5 3 = 0#3) ∧
  (∀ s t : State, exec .reset s = .next t →
    hostRead 1#3 t = if s.cfg.max ≠ s.cfg.threshold then 0b00000101#8 else 0b00000001#8) ∧
  ∀ (s : State) (data : Byte), Operable s →
    execWord (packWord 0b01#2 1#3 data) s = .next { s with err := s.err ||| 0b100#3, rdata := none }

/-- R38: reads have no side effect; what each write does; every read and every write is idempotent. -/
def Obligations.HostAccessesIdempotent : Prop :=
  (∀ (off : Offset) (data : Byte) (s : State),
    hostWrite off data s =
      if off = 0#3 ∧ data = 0x01#8 then { s with en := 1#1 }
      else if off = 0#3 ∧ data = 0x00#8 then s
      else { s with err := s.err ||| 0b100#3 }) ∧
  (∀ (i : Instr) (s t : State), i.kind = .read → exec i s = .next t →
    t = { s with rdata := t.rdata } ∧ exec i t = .next t) ∧
  ∀ (i : Instr) (s t : State), i.kind = .write → exec i s = .next t → exec i t = .next t

/-- R84: no host operation writes `duty`, `cnt`, `dir` or `comp`, clears `en` or clears a bit of `err`. -/
def Obligations.HostOperationsFrame : Prop :=
  ∀ (i : Instr) (s t : State), i.kind = .read ∨ i.kind = .write → exec i s = .next t →
    t.duty = s.duty ∧ t.cnt = s.cnt ∧ t.dir = s.dir ∧ t.comp = s.comp ∧
    (s.en = 1#1 → t.en = 1#1) ∧ s.err &&& t.err = s.err ∧
    t.wasReset = s.wasReset ∧ t.cfg = s.cfg ∧ t.input = s.input

/-! ## RESET, and what is refused -/

/-- R101: RESET gives the reset state, whatever the state before, and overrides the rest of its clock cycle. -/
def Obligations.ResetResult : Prop :=
  decode 0x1800#13 = .ok .reset ∧
  (∀ s : State, s.cfg.wf = true →
    exec .reset s = .next
      { duty := 0x00#8, dir := 0#1, cnt := 0x00#8, comp := 1#1, en := 0#1,
        err := if s.cfg.max ≠ s.cfg.threshold then 0b001#3 else 0b000#3,
        wasReset := true, cfg := s.cfg, rdata := none, input := s.input }) ∧
  ∀ (c : Inputs) (s : State), c.rst = true → clockCycle c s = exec .reset s

/-- R101: the result of RESET depends on nothing of the state before but the instance and the words waiting. -/
def Obligations.ResetForgetsThePast : Prop :=
  ∀ s s' : State, s.cfg = s'.cfg → s.input = s'.input → exec .reset s = exec .reset s'

/-- R102, R32: at power-on every operation but RESET is refused, and RESET leads to the reset state. -/
def Obligations.RefusedBeforeReset : Prop :=
  (∀ (i : Instr) (s : State), s.cfg.wf = true → s.wasReset = false → i ≠ .reset →
    exec i s = .refused .notReset) ∧
  ∀ p : Config.Params, p.wf = true →
    (State.powerOn p).wasReset = false ∧ exec .reset (State.powerOn p) = .next (State.resetOf p)

/-- R9: the three checks, and the refusal of every operation where one fails; the reference pair passes. -/
def Obligations.IllFormedParametersRefused : Prop :=
  (∀ p : Config.Params,
    p.wf = true ↔ p.max ≥ 1 ∧ p.threshold ≥ 1 ∧ p.max + p.threshold - 1 ≤ 255) ∧
  (∀ (i : Instr) (s : State), s.cfg.wf = false → exec i s = .refused .noInstance) ∧
  Config.reference.wf = true

/-- R10: a mismatched pair that passes R9 still runs, and every RESET raises CFG_MISMATCH exactly for it. -/
def Obligations.ResetRaisesCfgMismatch : Prop :=
  (∀ p : Config.Params, p.matched = true ↔ p.max = p.threshold) ∧
  ∀ s : State, s.cfg.wf = true →
    ∃ t, exec .reset s = .next t ∧ Operable t ∧ t.flag .cfgMismatch = !s.cfg.matched

/-! ## Fault flags -/

/-- R85, R88 to R90, R95: exactly which operation sets which flag, and when. -/
def Obligations.FlagsAfterEachOperation : Prop :=
  ∀ (i : Instr) (s t : State), exec i s = .next t →
    t.flag .cfgMismatch =
      (if i = .reset then decide (s.cfg.max ≠ s.cfg.threshold) else s.flag .cfgMismatch) ∧
    t.flag .dutyRange =
      (if i = .reset then false
       else s.flag .dutyRange ||
        decide (i = .tick ∧ s.en = 1#1 ∧ (nextDuty s < 0 ∨ nextDuty s > s.cfg.max))) ∧
    t.flag .hostAccess = (if i = .reset then false else s.flag .hostAccess || illegalInstr i)

/-- R21, R91: every flag is sticky: only RESET clears one. -/
def Obligations.FlagsAreSticky : Prop :=
  ∀ (i : Instr) (s t : State) (k : Cause), exec i s = .next t → i ≠ .reset →
    s.flag k = true → t.flag k = true

/-- R87, R92: the flags steer nothing. Two states that differ only in `err` take the same step but for `err`, and but
for the byte that RD_STATUS returns. -/
def Obligations.FlagsSteerNothing : Prop :=
  ∀ (i : Instr) (s t : State) (e : BitVec 3), exec i s = .next t →
    ∃ t', exec i { s with err := e } = .next t' ∧
      t' = { t with err := t'.err, rdata := t'.rdata } ∧ (i ≠ .rdStatus → t'.rdata = t.rdata)

/-- R19, R93: ENABLE is the only operation that enables events, and RESET the only one that disables them. -/
def Obligations.OnlyEnableEnablesOnlyResetDisables : Prop :=
  ∀ (i : Instr) (s t : State), exec i s = .next t →
    (t.en = 1#1 ↔ i = .enable ∨ (s.en = 1#1 ∧ i ≠ .reset))

/-! ## Ports and clock cycles -/

/-- R22: the outputs are the registers. -/
def Obligations.OutputsAreRegisters : Prop :=
  ∀ s : State, (outputs s).pwOut = s.duty ∧ (outputs s).compOut = s.comp ∧ (outputs s).errOut = s.err

/-- R35, R39: wherever the platform places the window, its eight byte addresses select the eight offsets, and no
other address does. -/
def Obligations.WindowHasEightOffsets : Prop :=
  (∀ off : Offset, windowOffset (Config.hostBase + off.toNat) = some off) ∧
  ∀ addr : Nat, addr < Config.hostBase ∨ Config.hostBase + 8 ≤ addr → windowOffset addr = none

/-- R55: the operations of a clock cycle, their order, and what the cycle does. Every clock cycle of an operable block
completes; its READ returns the state before the cycle; a tick in the cycle of ENABLE is discarded; a tick held for
`k` cycles is `k` TICK operations. What `rdata` holds at the end of a cycle is log entry 9. -/
def Obligations.ClockCycleOrder : Prop :=
  (∀ c : Inputs, c.rst = true → c.ops = [.reset]) ∧
  (∀ c : Inputs, c.rst = false →
    c.ops = (if c.hostRd then [readInstr c.hostOff] else []) ++ (if c.tick then [.tick] else []) ++
      (if c.hostWr then [writeInstr c.hostOff c.hostWdata] else [])) ∧
  (∀ (c : Inputs) (s : State), c.rst = true → clockCycle c s = runOps c.ops s) ∧
  (∀ (c : Inputs) (s : State), c.rst = false → Operable s →
    ∃ u, runOps c.ops s = .next u ∧
      clockCycle c s =
        .next { u with rdata := if c.hostRd then some (hostRead c.hostOff s) else none }) ∧
  (∀ s : State, Operable s → s.en = 0#1 →
    clockCycle { rst := false, tick := true, hostWr := true, hostRd := false, hostOff := 0#3, hostWdata := 0x01#8 } s =
      .next { s with en := 1#1, rdata := none }) ∧
  ∀ (k : Nat) (off : Offset) (data : Byte) (s : State), Operable s →
    runCycles (List.replicate k
      { rst := false, tick := true, hostWr := false, hostRd := false, hostOff := off, hostWdata := data }) s =
      runOps (List.replicate k .tick) s

/-- R45, R55: the words that encode a clock cycle perform the cycle's operations. -/
def Obligations.CycleWordsPerformCycleOps : Prop :=
  ∀ (c : Inputs) (s : State), runWords c.words s = runOps c.ops s

/-- R67: TICKs are never merged and none is lost: `k` TICK operations are `k` events, one after another. -/
def Obligations.TicksAreNeverMergedOrLost : Prop :=
  ∀ (k : Nat) (s : State), Operable s → runOps (List.replicate k .tick) s = .next (ticks k s)

/-! ## The ramp -/

/-- R29: in every state reachable from RESET, `comp = 1 - dir`. -/
def Obligations.CompanionMirrorsDirection : Prop :=
  ∀ (ws : List OpWord) (s t : State), RunFromReset ws s t → t.comp = 1#1 - t.dir

/-- R29, as an invariant: every step from every state that has it keeps it. -/
def Obligations.StepKeepsCompanionMirror : Prop :=
  ∀ s t : State, CompanionMirror s → step s = .next t → CompanionMirror t

/-- R29 to R31, as an invariant: every step from a state on the ramp leads to a state on the ramp. -/
def Obligations.StepKeepsRampInvariant : Prop :=
  ∀ s t : State, RampInv s → step s = .next t → RampInv t

/-- The reset state of every well-formed pair is on the ramp, `State.reset` among them. -/
def Obligations.ResetIsOnTheRamp : Prop :=
  (∀ p : Config.Params, p.wf = true → RampInv (State.resetOf p) ∧ OnRamp (State.resetOf p) 0) ∧
  RampInv State.reset

/-- R31: the closed form for every well-formed pair, and its consequences. `n` is the count of enabled TICKs since
the last RESET. -/
def Obligations.ClosedFormForEveryPair : Prop :=
  (∀ (ws : List OpWord) (s t : State), RunFromReset ws s t →
    t.duty.toNat = rampDuty t.cfg (countEvents ws s 0) ∧
    t.cnt.toNat = countEvents ws s 0 % t.cfg.threshold ∧
    t.dir = rampDir t.cfg (countEvents ws s 0) ∧
    t.comp = 1#1 - t.dir ∧
    (t.flag .dutyRange = true ↔ ¬ t.cfg.threshold ∣ t.cfg.max ∧ t.cfg.max + 1 ≤ countEvents ws s 0)) ∧
  ∀ p : Config.Params, p.wf = true →
    (∀ n, rampDuty p n ≤ rampPeak p) ∧ rampPeak p ≤ p.max + p.threshold - 1 ∧
    p.max + p.threshold - 1 ≤ 255 ∧
    (rampPeak p = p.max ↔ p.threshold ∣ p.max) ∧
    (¬ p.threshold ∣ p.max →
      (∀ n, n ≤ p.max → rampDuty p n ≤ p.max) ∧ rampDuty p (p.max + 1) = p.max + 1) ∧
    ∀ n, rampDuty p (n + 2 * rampPeak p) = rampDuty p n ∧ rampCnt p (n + 2 * rampPeak p) = rampCnt p n ∧
      rampDir p (n + 2 * rampPeak p) = rampDir p n

/-- R30: the closed form of a matched pair. -/
def Obligations.ClosedFormMatched : Prop :=
  ∀ (ws : List OpWord) (s t : State) (m n k : Nat), RunFromReset ws s t →
    t.cfg.max = m → t.cfg.threshold = m → n = countEvents ws s 0 → k = n % (2 * m) →
    t.duty.toNat = (if k ≤ m then k else 2 * m - k) ∧
    t.cnt.toNat = n % m ∧
    t.dir = (if k < m then 0#1 else 1#1) ∧
    t.comp = 1#1 - t.dir ∧
    t.flag .dutyRange = false

/-- R30 (I1, I2, I3, P3), R69: on the ramp of a matched pair an enabled TICK flips the direction exactly where the
counter reaches the threshold with duty at an extreme, the counter wraps exactly there, and the comparisons are
equalities. -/
def Obligations.MatchedFlipsExactlyAtExtremes : Prop :=
  ∀ s t : State, RampInv s → s.cfg.max = s.cfg.threshold → s.en = 1#1 → exec .tick s = .next t →
    (t.dir ≠ s.dir ↔
      nextCount s = s.cfg.threshold ∧
        ((t.duty.toNat = s.cfg.max ∧ s.dir = 0#1) ∨ (t.duty.toNat = 0 ∧ s.dir = 1#1))) ∧
    (t.cnt = 0x00#8 ↔ t.duty.toNat = 0 ∨ t.duty.toNat = s.cfg.max) ∧
    (nextDuty s ≥ s.cfg.max ↔ nextDuty s = s.cfg.max) ∧ (nextDuty s ≤ 0 ↔ nextDuty s = 0)

/-- P2 of R30 for every pair: on the ramp an enabled TICK moves duty by exactly one step of the direction. -/
def Obligations.EnabledTickMovesDutyOneStep : Prop :=
  ∀ s t : State, RampInv s → s.en = 1#1 → exec .tick s = .next t →
    (t.duty.toNat : Int) = (s.duty.toNat : Int) + (if s.dir = 0#1 then 1 else -1)

/-- R68: no wrap in any state reachable from RESET. -/
def Obligations.NoWrapFromReset : Prop :=
  ∀ (ws : List OpWord) (s t : State), RunFromReset ws s t →
    0 ≤ nextDuty t ∧ nextDuty t ≤ t.cfg.max + t.cfg.threshold - 1 ∧
    t.cfg.max + t.cfg.threshold - 1 ≤ 255 ∧
    nextDuty t % 256 = nextDuty t ∧ ((BitVec.ofInt 8 (nextDuty t)).toNat : Int) = nextDuty t

/-- R58: the incremented counter in any state reachable from RESET; R62: there `=` and `>=` agree. -/
def Obligations.CounterStaysBelowThreshold : Prop :=
  ∀ (ws : List OpWord) (s t : State), RunFromReset ws s t →
    nextCount t = t.cnt.toNat + 1 ∧ t.cnt.toNat ≤ t.cfg.threshold - 1 ∧
    1 ≤ nextCount t ∧ nextCount t ≤ t.cfg.threshold ∧ t.cfg.threshold ≤ 255 ∧
    (nextCount t = t.cfg.threshold ↔ nextCount t ≥ t.cfg.threshold)

/-- R89: when DUTY_RANGE is set, in every state, and from RESET. -/
def Obligations.DutyRangeExactly : Prop :=
  (∀ s t : State, s.en = 1#1 → exec .tick s = .next t →
    nextDuty s < 0 ∨ nextDuty s > s.cfg.max → t.flag .dutyRange = true) ∧
  (∀ p : Config.Params, p.wf = true → ∀ n,
    ((ticks n (setEnable (State.resetOf p))).flag .dutyRange = true ↔
      ¬ p.threshold ∣ p.max ∧ p.max + 1 ≤ n)) ∧
  ∀ p : Config.Params, p.wf = true → ¬ p.threshold ∣ p.max →
    (ticks (p.max + 1) (setEnable (State.resetOf p))).duty.toNat = p.max + 1

/-- R18: the stored counter is 0 to `THRESHOLD - 1`: after RESET of every well-formed pair, and every step from every
such state of a well-formed instance keeps it. -/
def Obligations.StepKeepsCounterBelowThreshold : Prop :=
  (∀ p : Config.Params, p.wf = true → CounterBelow (State.resetOf p)) ∧
  ∀ s t : State, CounterBelow s → step s = .next t → CounterBelow t

/-- R88, R21: CFG_MISMATCH tells a mismatched instance: `err[0]` is 1 exactly where `MAX != THRESHOLD`, after RESET of
every pair, and every step from every such state keeps it. -/
def Obligations.StepKeepsMismatchFlagged : Prop :=
  (∀ p : Config.Params, MismatchFlagged (State.resetOf p)) ∧
  ∀ s t : State, MismatchFlagged s → step s = .next t → MismatchFlagged t

/-- R91, R112, as an invariant: a matched instance on its ramp with no flag set, for which only legal operations wait
(log entry 2), is never refused, and every step leads to such a state. -/
def Obligations.StepKeepsLegalMatchedUnfaulted : Prop :=
  (∀ p : Config.Params, p.wf = true → p.matched = true → LegalUnfaulted (State.resetOf p)) ∧
  ∀ s : State, LegalUnfaulted s →
    (∃ t, step s = .next t) ∧ ∀ t, step s = .next t → LegalUnfaulted t

/-- P5 of R30: on the ramp of a matched pair, `2 * MAX` enabled TICKs close the cycle, and every register is as it
was. -/
def Obligations.MatchedCycleCloses : Prop :=
  ∀ s : State, RampInv s → s.cfg.max = s.cfg.threshold → s.en = 1#1 →
    ticks (2 * s.cfg.max) s = { s with rdata := none }

/-- R91, R112: a run of a matched instance that starts with RESET, has no invalid word and no illegal write, is
good. -/
def Obligations.MatchedLegalRunsAreGood : Prop :=
  ∀ (ws : List OpWord) (s : State), s.cfg.wf = true → s.cfg.matched = true → startsWithReset ws = true →
    (∀ w ∈ ws, ∃ i, decode w = .ok i ∧ illegalInstr i = false) → GoodRun ws s

/-- R112: what is observed of a run that is refused nowhere: one state for each operation, the last of them the end
of the run. -/
def Obligations.RunIsObservedOperationByOperation : Prop :=
  ∀ (ws : List OpWord) (s t : State), RunFromReset ws s t →
    (observe ws s).length = ws.length ∧ (observe ws s).getLast? = some t ∧
    ∀ u ∈ observe ws s, Operable u ∧ u.cfg = s.cfg

/-- R91: no run of a mismatched instance is good. -/
def Obligations.MismatchedRunsAreNeverGood : Prop :=
  ∀ (ws : List OpWord) (s : State), s.cfg.max ≠ s.cfg.threshold → ¬ GoodRun ws s

/-! ## The syntax of an operation sequence -/

/-- R54: the pseudo-instructions and their expansions. -/
def Obligations.PseudoInstructionWords : Prop :=
  AsmLine.enable.words = [0x0801#13] ∧ AsmLine.enable.words = (AsmLine.wr 0#3 0x01#8).words ∧
  (∀ n, (AsmLine.ticks n).words = List.replicate n 0x0000#13) ∧
  AsmLine.idle.words = [] ∧ AsmLine.boot.words = [0x1800#13, 0x0801#13]

/-- R53: a line's words decode to the operations the line names. -/
def Obligations.AssembledLinesDecode : Prop :=
  (∀ (off : Offset), (AsmLine.rd off).words.map decode = [.ok (readInstr off)]) ∧
  (∀ (off : Offset) (data : Byte), (AsmLine.wr off data).words.map decode = [.ok (writeInstr off data)]) ∧
  AsmLine.tick.words.map decode = [.ok .tick] ∧ AsmLine.reset.words.map decode = [.ok .reset] ∧
  ∀ (l : AsmLine) (w : OpWord), w ∈ l.words → ∃ i, decode w = .ok i ∧ i.wf = true

/-- R104: the startup sequence BOOT leads from power-on to the reset state with events enabled. -/
def Obligations.BootFromPowerOn : Prop :=
  ∀ p : Config.Params, p.wf = true →
    runWords AsmLine.boot.words (State.powerOn p) = .next (setEnable (State.resetOf p))
end

