-- ==== Sys2Proof/Laws/Decode.lean ====
section
/-! SUPPORT. The fields of a packed word, and the operand conditions of decoded operations. -/

namespace Sys2Proof

/-- The bits of a packed word (R45). -/
theorem packWord_getLsbD (k : BitVec 2) (a : Offset) (d : Byte) (i : Nat) :
    (packWord k a d).getLsbD i =
      if i < 8 then d.getLsbD i else if i - 8 < 3 then a.getLsbD (i - 8) else k.getLsbD (i - 8 - 3) := by
  have h5 : (k ++ a).getLsbD (i - 8) = if i - 8 < 3 then a.getLsbD (i - 8) else k.getLsbD (i - 8 - 3) := by
    exact (BitVec.getLsbD_append ..).trans (by split <;> simp_all)
  have h13 : (packWord k a d).getLsbD i = if i < 8 then d.getLsbD i else (k ++ a).getLsbD (i - 8) := by
    exact (BitVec.getLsbD_append ..).trans (by split <;> simp_all)
  rw [h13, h5]

@[simp] theorem fieldK_packWord (k : BitVec 2) (a : Offset) (d : Byte) : fieldK (packWord k a d) = k := by
  apply BitVec.eq_of_getLsbD_eq
  intro i hi
  have h1 : ¬ 11 + i < 8 := by omega
  have h2 : ¬ 11 + i - 8 < 3 := by omega
  have h3 : 11 + i - 8 - 3 = i := by omega
  rw [fieldK, BitVec.getLsbD_extractLsb', packWord_getLsbD]
  simp [h1, h2, h3, hi]

@[simp] theorem fieldA_packWord (k : BitVec 2) (a : Offset) (d : Byte) : fieldA (packWord k a d) = a := by
  apply BitVec.eq_of_getLsbD_eq
  intro i hi
  rw [fieldA, BitVec.getLsbD_extractLsb', packWord_getLsbD]
  simp [hi]

@[simp] theorem fieldD_packWord (k : BitVec 2) (a : Offset) (d : Byte) : fieldD (packWord k a d) = d := by
  apply BitVec.eq_of_getLsbD_eq
  intro i hi
  rw [fieldD, BitVec.getLsbD_extractLsb', packWord_getLsbD]
  simp [hi]

/-- A word is its three fields (R45). -/
theorem packWord_fields (w : OpWord) : packWord (fieldK w) (fieldA w) (fieldD w) = w := by
  apply BitVec.eq_of_getLsbD_eq
  intro i hi
  rw [packWord_getLsbD, fieldK, fieldA, fieldD, BitVec.getLsbD_extractLsb', BitVec.getLsbD_extractLsb',
    BitVec.getLsbD_extractLsb']
  split_ifs with h1 h2
  · simp [h1]
  · have h : 8 + (i - 8) = i := by omega
    simp [h2, h]
  · have h3 : i - 8 - 3 < 2 := by omega
    have h : 11 + (i - 8 - 3) = i := by omega
    simp [h3, h]

/-- Only 0x00 and 0x01 set no reserved bit of CTRL. -/
theorem setsReservedCtrl_iff : ∀ d : Byte, setsReservedCtrl d = true ↔ d ≠ 0x01#8 ∧ d ≠ 0x00#8 := by
  decide

/-- The unmapped offsets are those that name no register. -/
theorem unmappedOffset_iff :
    ∀ a : Offset, unmappedOffset a = true ↔ a ≠ 0#3 ∧ a ≠ 1#3 ∧ a ≠ 2#3 ∧ a ≠ 3#3 := by
  decide

end Sys2Proof
end

