-- ==== Sys2Proof/Laws/State.lean ====
section
/-! SUPPORT. Each field after each update of the state. -/

namespace Sys2Proof.Machine

variable (s : State)

/-! ## quiet -/

@[simp] theorem quiet_duty : (quiet s).duty = s.duty := rfl
@[simp] theorem quiet_dir : (quiet s).dir = s.dir := rfl
@[simp] theorem quiet_cnt : (quiet s).cnt = s.cnt := rfl
@[simp] theorem quiet_comp : (quiet s).comp = s.comp := rfl
@[simp] theorem quiet_en : (quiet s).en = s.en := rfl
@[simp] theorem quiet_err : (quiet s).err = s.err := rfl
@[simp] theorem quiet_wasReset : (quiet s).wasReset = s.wasReset := rfl
@[simp] theorem quiet_cfg : (quiet s).cfg = s.cfg := rfl
@[simp] theorem quiet_rdata : (quiet s).rdata = none := rfl
@[simp] theorem quiet_input : (quiet s).input = s.input := rfl

/-! ## returnByte -/

@[simp] theorem returnByte_duty (b : Byte) : (returnByte b s).duty = s.duty := rfl
@[simp] theorem returnByte_dir (b : Byte) : (returnByte b s).dir = s.dir := rfl
@[simp] theorem returnByte_cnt (b : Byte) : (returnByte b s).cnt = s.cnt := rfl
@[simp] theorem returnByte_comp (b : Byte) : (returnByte b s).comp = s.comp := rfl
@[simp] theorem returnByte_en (b : Byte) : (returnByte b s).en = s.en := rfl
@[simp] theorem returnByte_err (b : Byte) : (returnByte b s).err = s.err := rfl
@[simp] theorem returnByte_wasReset (b : Byte) : (returnByte b s).wasReset = s.wasReset := rfl
@[simp] theorem returnByte_cfg (b : Byte) : (returnByte b s).cfg = s.cfg := rfl
@[simp] theorem returnByte_rdata (b : Byte) : (returnByte b s).rdata = some b := rfl
@[simp] theorem returnByte_input (b : Byte) : (returnByte b s).input = s.input := rfl

/-! ## setEnable -/

@[simp] theorem setEnable_duty : (setEnable s).duty = s.duty := rfl
@[simp] theorem setEnable_dir : (setEnable s).dir = s.dir := rfl
@[simp] theorem setEnable_cnt : (setEnable s).cnt = s.cnt := rfl
@[simp] theorem setEnable_comp : (setEnable s).comp = s.comp := rfl
@[simp] theorem setEnable_en : (setEnable s).en = 1#1 := rfl
@[simp] theorem setEnable_err : (setEnable s).err = s.err := rfl
@[simp] theorem setEnable_wasReset : (setEnable s).wasReset = s.wasReset := rfl
@[simp] theorem setEnable_cfg : (setEnable s).cfg = s.cfg := rfl
@[simp] theorem setEnable_rdata : (setEnable s).rdata = s.rdata := rfl
@[simp] theorem setEnable_input : (setEnable s).input = s.input := rfl

/-! ## raise -/

@[simp] theorem raise_duty (k : Cause) : (raise k s).duty = s.duty := rfl
@[simp] theorem raise_dir (k : Cause) : (raise k s).dir = s.dir := rfl
@[simp] theorem raise_cnt (k : Cause) : (raise k s).cnt = s.cnt := rfl
@[simp] theorem raise_comp (k : Cause) : (raise k s).comp = s.comp := rfl
@[simp] theorem raise_en (k : Cause) : (raise k s).en = s.en := rfl
@[simp] theorem raise_err (k : Cause) : (raise k s).err = s.err ||| k.mask := rfl
@[simp] theorem raise_wasReset (k : Cause) : (raise k s).wasReset = s.wasReset := rfl
@[simp] theorem raise_cfg (k : Cause) : (raise k s).cfg = s.cfg := rfl
@[simp] theorem raise_rdata (k : Cause) : (raise k s).rdata = s.rdata := rfl
@[simp] theorem raise_input (k : Cause) : (raise k s).input = s.input := rfl

/-! ## illegalWrite -/

@[simp] theorem illegalWrite_duty : (illegalWrite s).duty = s.duty := rfl
@[simp] theorem illegalWrite_dir : (illegalWrite s).dir = s.dir := rfl
@[simp] theorem illegalWrite_cnt : (illegalWrite s).cnt = s.cnt := rfl
@[simp] theorem illegalWrite_comp : (illegalWrite s).comp = s.comp := rfl
@[simp] theorem illegalWrite_en : (illegalWrite s).en = s.en := rfl
@[simp] theorem illegalWrite_err : (illegalWrite s).err = s.err ||| Cause.hostAccess.mask := rfl
@[simp] theorem illegalWrite_wasReset : (illegalWrite s).wasReset = s.wasReset := rfl
@[simp] theorem illegalWrite_cfg : (illegalWrite s).cfg = s.cfg := rfl
@[simp] theorem illegalWrite_rdata : (illegalWrite s).rdata = s.rdata := rfl
@[simp] theorem illegalWrite_input : (illegalWrite s).input = s.input := rfl

/-! ## writeDuty -/

@[simp] theorem writeDuty_duty (d : Int) : (writeDuty d s).duty = BitVec.ofInt 8 d := rfl
@[simp] theorem writeDuty_dir (d : Int) : (writeDuty d s).dir = s.dir := rfl
@[simp] theorem writeDuty_cnt (d : Int) : (writeDuty d s).cnt = s.cnt := rfl
@[simp] theorem writeDuty_comp (d : Int) : (writeDuty d s).comp = s.comp := rfl
@[simp] theorem writeDuty_en (d : Int) : (writeDuty d s).en = s.en := rfl
@[simp] theorem writeDuty_err (d : Int) : (writeDuty d s).err = s.err := rfl
@[simp] theorem writeDuty_wasReset (d : Int) : (writeDuty d s).wasReset = s.wasReset := rfl
@[simp] theorem writeDuty_cfg (d : Int) : (writeDuty d s).cfg = s.cfg := rfl
@[simp] theorem writeDuty_rdata (d : Int) : (writeDuty d s).rdata = s.rdata := rfl
@[simp] theorem writeDuty_input (d : Int) : (writeDuty d s).input = s.input := rfl

/-! ## writeCnt -/

@[simp] theorem writeCnt_duty (v : Byte) : (writeCnt v s).duty = s.duty := rfl
@[simp] theorem writeCnt_dir (v : Byte) : (writeCnt v s).dir = s.dir := rfl
@[simp] theorem writeCnt_cnt (v : Byte) : (writeCnt v s).cnt = v := rfl
@[simp] theorem writeCnt_comp (v : Byte) : (writeCnt v s).comp = s.comp := rfl
@[simp] theorem writeCnt_en (v : Byte) : (writeCnt v s).en = s.en := rfl
@[simp] theorem writeCnt_err (v : Byte) : (writeCnt v s).err = s.err := rfl
@[simp] theorem writeCnt_wasReset (v : Byte) : (writeCnt v s).wasReset = s.wasReset := rfl
@[simp] theorem writeCnt_cfg (v : Byte) : (writeCnt v s).cfg = s.cfg := rfl
@[simp] theorem writeCnt_rdata (v : Byte) : (writeCnt v s).rdata = s.rdata := rfl
@[simp] theorem writeCnt_input (v : Byte) : (writeCnt v s).input = s.input := rfl

/-! ## resetWrites -/

@[simp] theorem resetWrites_duty : (resetWrites s).duty = 0x00#8 := rfl
@[simp] theorem resetWrites_dir : (resetWrites s).dir = 0#1 := rfl
@[simp] theorem resetWrites_cnt : (resetWrites s).cnt = 0x00#8 := rfl
@[simp] theorem resetWrites_comp : (resetWrites s).comp = 1#1 := rfl
@[simp] theorem resetWrites_en : (resetWrites s).en = 0#1 := rfl
@[simp] theorem resetWrites_err : (resetWrites s).err = resetErr s.cfg := rfl
@[simp] theorem resetWrites_wasReset : (resetWrites s).wasReset = true := rfl
@[simp] theorem resetWrites_cfg : (resetWrites s).cfg = s.cfg := rfl
@[simp] theorem resetWrites_rdata : (resetWrites s).rdata = s.rdata := rfl
@[simp] theorem resetWrites_input : (resetWrites s).input = s.input := rfl

/-! ## presentNext -/

@[simp] theorem presentNext_duty (w : OpWord) : (presentNext w s).duty = s.duty := rfl
@[simp] theorem presentNext_dir (w : OpWord) : (presentNext w s).dir = s.dir := rfl
@[simp] theorem presentNext_cnt (w : OpWord) : (presentNext w s).cnt = s.cnt := rfl
@[simp] theorem presentNext_comp (w : OpWord) : (presentNext w s).comp = s.comp := rfl
@[simp] theorem presentNext_en (w : OpWord) : (presentNext w s).en = s.en := rfl
@[simp] theorem presentNext_err (w : OpWord) : (presentNext w s).err = s.err := rfl
@[simp] theorem presentNext_wasReset (w : OpWord) : (presentNext w s).wasReset = s.wasReset := rfl
@[simp] theorem presentNext_cfg (w : OpWord) : (presentNext w s).cfg = s.cfg := rfl
@[simp] theorem presentNext_rdata (w : OpWord) : (presentNext w s).rdata = s.rdata := rfl
@[simp] theorem presentNext_input (w : OpWord) : (presentNext w s).input = w :: s.input := rfl

/-! ## present -/

@[simp] theorem present_duty (ws : List OpWord) : (present ws s).duty = s.duty := rfl
@[simp] theorem present_dir (ws : List OpWord) : (present ws s).dir = s.dir := rfl
@[simp] theorem present_cnt (ws : List OpWord) : (present ws s).cnt = s.cnt := rfl
@[simp] theorem present_comp (ws : List OpWord) : (present ws s).comp = s.comp := rfl
@[simp] theorem present_en (ws : List OpWord) : (present ws s).en = s.en := rfl
@[simp] theorem present_err (ws : List OpWord) : (present ws s).err = s.err := rfl
@[simp] theorem present_wasReset (ws : List OpWord) : (present ws s).wasReset = s.wasReset := rfl
@[simp] theorem present_cfg (ws : List OpWord) : (present ws s).cfg = s.cfg := rfl
@[simp] theorem present_rdata (ws : List OpWord) : (present ws s).rdata = s.rdata := rfl
@[simp] theorem present_input (ws : List OpWord) : (present ws s).input = s.input ++ ws := rfl

end Sys2Proof.Machine
end

