-- ==== Sys2Proof/Laws/Ops.lean ====
section
/-! SUPPORT. What each shared operation can do, said once: performing an operation, raising a flag, the steps of the
periodic event, and running a word or several. -/

namespace Sys2Proof.Machine

variable {s t : State}

/-! ## Performing an operation -/

theorem perform_next {f : State → State} (hc : s.cfg.wf = true) (hr : s.wasReset = true) :
    perform s f = .next (f (quiet s)) := by
  simp [perform, hc, hr]

theorem perform_next_iff {f : State → State} :
    perform s f = .next t ↔ s.cfg.wf = true ∧ s.wasReset = true ∧ t = f (quiet s) := by
  unfold perform
  cases s.cfg.wf <;> cases s.wasReset <;> simp [eq_comm]

theorem performAlways_next {f : State → State} (hc : s.cfg.wf = true) :
    performAlways s f = .next (f (quiet s)) := by
  simp [performAlways, hc]

theorem performAlways_next_iff {f : State → State} :
    performAlways s f = .next t ↔ s.cfg.wf = true ∧ t = f (quiet s) := by
  unfold performAlways
  cases s.cfg.wf <;> simp [eq_comm]

theorem perform_not_fault {f : State → State} {e : Fault} : perform s f ≠ .fault e := nomatch e

/-! ## What an operation does to the state -/

/-- The state change of each operation, once it is performed. -/
def effect : Instr → State → State
  | .tick => tickEvent
  | .enable => setEnable
  | .wrCtrlZero => fun s => s
  | .wrCtrlRsv _ => illegalWrite
  | .wrStatus _ => illegalWrite
  | .wrDuty _ => illegalWrite
  | .wrCnt _ => illegalWrite
  | .wrUnmapped _ _ => illegalWrite
  | .rdCtrl => fun s => returnByte (ctrlByte s) s
  | .rdStatus => fun s => returnByte (statusByte s) s
  | .rdDuty => fun s => returnByte (dutyByte s) s
  | .rdCnt => fun s => returnByte (cntByte s) s
  | .rdUnmapped _ => returnByte unmappedByte
  | .reset => resetWrites

theorem exec_eq_perform {i : Instr} (hi : i ≠ .reset) : exec i s = perform s (effect i) := by
  cases i <;> first | rfl | exact absurd rfl hi

theorem exec_reset_eq : exec .reset s = performAlways s resetWrites := rfl

/-- Everything `exec` can do where it goes on. -/
theorem exec_next_iff {i : Instr} :
    exec i s = .next t ↔
      s.cfg.wf = true ∧ (i = .reset ∨ s.wasReset = true) ∧ t = effect i (quiet s) := by
  by_cases hi : i = .reset
  · subst hi
    simp [exec_reset_eq, performAlways_next_iff, effect]
  · simp [exec_eq_perform hi, perform_next_iff, hi]

/-! ## Raising a flag -/

theorem flag_raise (k j : Cause) : (raise k s).flag j = (s.flag j || decide (j = k)) := by
  cases k <;> cases j <;> simp [State.flag, Cause.mask, Cause.code]

@[simp] theorem flag_quiet (j : Cause) : (quiet s).flag j = s.flag j := rfl

/-- The fault flags are the three bits of `err`. -/
theorem err_eq_of_flags (h : ∀ k, s.flag k = t.flag k) : s.err = t.err := by
  apply BitVec.eq_of_getLsbD_eq
  intro i hi
  rcases i with _ | _ | _ | i
  · exact h .cfgMismatch
  · exact h .dutyRange
  · exact h .hostAccess
  · omega

theorem raiseIf_eq (c : Bool) (k : Cause) :
    raiseIf c k s = { s with err := if c then s.err ||| k.mask else s.err } := by
  cases c <;> rfl

/-! ## The periodic event -/

theorem checkRange_eq (d : Int) :
    checkRange d s =
      { s with err := if outOfRange s.cfg d then s.err ||| Cause.dutyRange.mask else s.err } :=
  raiseIf_eq _ _

theorem boundaryCheck_eq (d : Int) :
    boundaryCheck d s =
      { s with
        dir := if d ≥ s.cfg.max then 1#1 else if d ≤ 0 then 0#1 else s.dir
        comp := if d ≥ s.cfg.max then 0#1 else if d ≤ 0 then 1#1 else s.comp } := by
  unfold boundaryCheck
  split_ifs <;> rfl

/-- The whole event, field by field (R57). -/
theorem periodicEvent_eq :
    periodicEvent s =
      { s with
        duty := BitVec.ofInt 8 (nextDuty s)
        cnt := if nextCount s = s.cfg.threshold then 0x00#8 else BitVec.ofNat 8 (nextCount s)
        dir :=
          if nextCount s = s.cfg.threshold then
            if nextDuty s ≥ s.cfg.max then 1#1 else if nextDuty s ≤ 0 then 0#1 else s.dir
          else s.dir
        comp :=
          if nextCount s = s.cfg.threshold then
            if nextDuty s ≥ s.cfg.max then 0#1 else if nextDuty s ≤ 0 then 1#1 else s.comp
          else s.comp
        err := if outOfRange s.cfg (nextDuty s) then s.err ||| Cause.dutyRange.mask else s.err } := by
  unfold periodicEvent thresholdStep
  rw [checkRange_eq]
  by_cases h : nextCount s = s.cfg.threshold
  · simp [h, boundaryCheck_eq, writeCnt, writeDuty]
    rfl
  · simp [h, writeCnt, writeDuty]
    rfl

theorem tickEvent_of_masked (h : s.en = 0#1) : tickEvent s = s := by
  simp [tickEvent, h]

theorem tickEvent_of_enabled (h : s.en = 1#1) : tickEvent s = periodicEvent s := by
  simp [tickEvent, h]

/-- TICK's whole state change, masked or not, field by field (R57, R66). -/
theorem tickEvent_eq :
    tickEvent s =
      { s with
        duty := if s.en = 0#1 then s.duty else BitVec.ofInt 8 (nextDuty s)
        cnt :=
          if s.en = 0#1 then s.cnt
          else if nextCount s = s.cfg.threshold then 0x00#8 else BitVec.ofNat 8 (nextCount s)
        dir :=
          if s.en = 0#1 then s.dir
          else if nextCount s = s.cfg.threshold then
            if nextDuty s ≥ s.cfg.max then 1#1 else if nextDuty s ≤ 0 then 0#1 else s.dir
          else s.dir
        comp :=
          if s.en = 0#1 then s.comp
          else if nextCount s = s.cfg.threshold then
            if nextDuty s ≥ s.cfg.max then 0#1 else if nextDuty s ≤ 0 then 1#1 else s.comp
          else s.comp
        err :=
          if s.en = 0#1 then s.err
          else if outOfRange s.cfg (nextDuty s) then s.err ||| Cause.dutyRange.mask else s.err } := by
  by_cases h : s.en = 0#1
  · simp only [tickEvent, h, if_true]
    rw [← h]
  · simp only [tickEvent, h, if_false, periodicEvent_eq]

theorem en_eq_zero_or_one (b : Bit) : b = 0#1 ∨ b = 1#1 := by
  revert b
  decide

@[simp] theorem nextDuty_quiet : nextDuty (quiet s) = nextDuty s := rfl

@[simp] theorem nextCount_quiet : nextCount (quiet s) = nextCount s := rfl

@[simp] theorem tickEvent_en : (tickEvent s).en = s.en := by
  unfold tickEvent
  split_ifs
  · rfl
  · rw [periodicEvent_eq]

@[simp] theorem tickEvent_wasReset : (tickEvent s).wasReset = s.wasReset := by
  unfold tickEvent
  split_ifs
  · rfl
  · rw [periodicEvent_eq]

@[simp] theorem tickEvent_cfg : (tickEvent s).cfg = s.cfg := by
  unfold tickEvent
  split_ifs
  · rfl
  · rw [periodicEvent_eq]

@[simp] theorem tickEvent_rdata : (tickEvent s).rdata = s.rdata := by
  unfold tickEvent
  split_ifs
  · rfl
  · rw [periodicEvent_eq]

@[simp] theorem tickEvent_input : (tickEvent s).input = s.input := by
  unfold tickEvent
  split_ifs
  · rfl
  · rw [periodicEvent_eq]

/-- No operation changes the parameters or the words still waiting. -/
theorem effect_frame (i : Instr) : (effect i s).cfg = s.cfg ∧ (effect i s).input = s.input := by
  cases i <;> simp [effect]

/-! ## RESET -/

theorem resetErr_eq (p : Config.Params) : resetErr p = if p.matched then 0b000#3 else 0b001#3 := by
  unfold resetErr Config.Params.matched
  by_cases h : p.max = p.threshold <;> simp [h]

/-- RESET leaves the reset state of the instance, but for the words still waiting. -/
theorem resetWrites_eq : resetWrites (quiet s) = { State.resetOf s.cfg with input := s.input } := by
  simp [resetWrites, quiet, State.resetOf, resetErr_eq]

/-! ## Words and runs -/

/-- Everything a word can do where the block goes on. -/
theorem execWord_next_iff {w : OpWord} :
    execWord w s = .next t ↔ ∃ i, decode w = .ok i ∧ exec i s = .next t := by
  unfold execWord
  cases h : decode w with
  | error e => cases e; simp
  | ok i => simp

theorem execWord_of_decode {w : OpWord} {i : Instr} (h : decode w = .ok i) : execWord w s = exec i s := by
  simp [execWord, h]

theorem andThen_next_iff {r : Result} {f : State → Result} :
    andThen r f = .next t ↔ ∃ u, r = .next u ∧ f u = .next t := by
  cases r with
  | next u => simp [andThen]
  | fault e => nomatch e
  | refused e => simp [andThen]

theorem runWords_cons_next_iff {w : OpWord} {ws : List OpWord} :
    runWords (w :: ws) s = .next t ↔ ∃ u, execWord w s = .next u ∧ runWords ws u = .next t :=
  andThen_next_iff

theorem runOps_cons_next_iff {i : Instr} {is : List Instr} :
    runOps (i :: is) s = .next t ↔ ∃ u, exec i s = .next u ∧ runOps is u = .next t :=
  andThen_next_iff

/-! ## The step -/

theorem fetch_nil (h : s.input = []) : fetch s = none := by
  simp [fetch, h]

theorem fetch_cons {w : OpWord} {ws : List OpWord} (h : s.input = w :: ws) :
    fetch s = some (w, { s with input := ws }) := by
  simp [fetch, h]

/-- Everything a step can do where the block goes on: idle, or one decoded operation. -/
theorem step_next_iff :
    step s = .next t ↔
      (s.input = [] ∧ t = quiet s) ∨
        ∃ w ws i, s.input = w :: ws ∧ decode w = .ok i ∧ exec i { s with input := ws } = .next t := by
  unfold step
  cases h : s.input with
  | nil => simp [fetch_nil h, idle, eq_comm]
  | cons w ws =>
    simp [fetch_cons h, execWord_next_iff]

end Sys2Proof.Machine
end

