-- ==== Sys2Proof/Laws/PerInstr.lean ====
section
/-! SUPPORT. Statements made per operation: the kind field of its word (spec 30_encoding.md R45, R46). -/

namespace Sys2Proof.Laws.EncodeKind

/-- The word of the operation holds the operation's kind in field K. -/
def Statement (i : Instr) : Prop := fieldK (encode i) = i.kind.code

theorem tick : Statement .tick := fieldK_packWord _ _ _
theorem enable : Statement .enable := fieldK_packWord _ _ _
theorem wrCtrlZero : Statement .wrCtrlZero := fieldK_packWord _ _ _
theorem wrCtrlRsv (data : Byte) : Statement (.wrCtrlRsv data) := fieldK_packWord _ _ _
theorem wrStatus (data : Byte) : Statement (.wrStatus data) := fieldK_packWord _ _ _
theorem wrDuty (data : Byte) : Statement (.wrDuty data) := fieldK_packWord _ _ _
theorem wrCnt (data : Byte) : Statement (.wrCnt data) := fieldK_packWord _ _ _
theorem wrUnmapped (off : Offset) (data : Byte) : Statement (.wrUnmapped off data) := fieldK_packWord _ _ _
theorem rdCtrl : Statement .rdCtrl := fieldK_packWord _ _ _
theorem rdStatus : Statement .rdStatus := fieldK_packWord _ _ _
theorem rdDuty : Statement .rdDuty := fieldK_packWord _ _ _
theorem rdCnt : Statement .rdCnt := fieldK_packWord _ _ _
theorem rdUnmapped (off : Offset) : Statement (.rdUnmapped off) := fieldK_packWord _ _ _
theorem reset : Statement .reset := fieldK_packWord _ _ _

end Sys2Proof.Laws.EncodeKind
end

