-- ==== Sys2Proof/Tests/Slice0.lean ====
section
/-! SUPPORT. Tests: the spec's vectors (95_test_vectors.md), a word written out for every constructor, ill-formed
operations, and a witness for every statement that has hypotheses. -/

namespace Sys2Proof.Tests

open Sys2Proof Sys2Proof.Machine

/-- A reset state of the instance `(m, t)` with the registers `(duty, cnt, dir, comp, en, err)`, in the notation of
95_test_vectors.md section 0. -/
def st (m t : Nat) (duty cnt : Byte) (dir comp en : Bit) (err : BitVec 3) : State where
  duty := duty
  dir := dir
  cnt := cnt
  comp := comp
  en := en
  err := err
  wasReset := true
  cfg := { max := m, threshold := t }
  rdata := none
  input := []

/-- `s` with a byte on `host_rdata`. -/
def reading (b : Byte) (s : State) : State := { s with rdata := some b }

/-- The next state of a result, if there is one. -/
def after : Result → Option State
  | .next s => some s
  | .fault _ => none
  | .refused _ => none

/-- The refusal of a result, if it is one. -/
def refusal : Result → Option Refusal
  | .next _ => none
  | .fault _ => none
  | .refused r => some r

/-- What a word decodes to, if it is valid. -/
def decoded (w : OpWord) : Option Instr :=
  match decode w with
  | .ok i => some i
  | .error _ => none

/-! ## Well-formedness: an ill-formed operation for each check (R49) -/

theorem test_wf_refuses_ctrlRsv_one : (Instr.wrCtrlRsv 0x01#8).wf = false := by decide
theorem test_wf_refuses_ctrlRsv_zero : (Instr.wrCtrlRsv 0x00#8).wf = false := by decide
theorem test_wf_refuses_wrUnmapped_cnt : (Instr.wrUnmapped 3#3 0x00#8).wf = false := by decide
theorem test_wf_refuses_rdUnmapped_cnt : (Instr.rdUnmapped 3#3).wf = false := by decide
theorem test_params_wf : (Config.Params.mk 125 131).wf = true ∧ (Config.Params.mk 125 132).wf = false ∧
    (Config.Params.mk 0 1).wf = false ∧ (Config.Params.mk 1 0).wf = false := by decide

/-! ## Decoding: a word written out bit by bit from R45 and R49 for each constructor -/

theorem test_decode_tick : decoded 0b00_000_00000000#13 = some .tick := by decide
theorem test_decode_enable : decoded 0b01_000_00000001#13 = some .enable := by decide
theorem test_decode_wrCtrlZero : decoded 0b01_000_00000000#13 = some .wrCtrlZero := by decide
theorem test_decode_wrCtrlRsv : decoded 0b01_000_00000010#13 = some (.wrCtrlRsv 0x02#8) := by decide
theorem test_decode_wrStatus : decoded 0b01_001_11000001#13 = some (.wrStatus 0xC1#8) := by decide
theorem test_decode_wrDuty : decoded 0b01_010_01000000#13 = some (.wrDuty 0x40#8) := by decide
theorem test_decode_wrCnt : decoded 0b01_011_00001111#13 = some (.wrCnt 0x0F#8) := by decide
theorem test_decode_wrUnmapped : decoded 0b01_100_10000000#13 = some (.wrUnmapped 4#3 0x80#8) := by decide
theorem test_decode_rdCtrl : decoded 0b10_000_00000000#13 = some .rdCtrl := by decide
theorem test_decode_rdStatus : decoded 0b10_001_00000000#13 = some .rdStatus := by decide
theorem test_decode_rdDuty : decoded 0b10_010_00000000#13 = some .rdDuty := by decide
theorem test_decode_rdCnt : decoded 0b10_011_00000000#13 = some .rdCnt := by decide
theorem test_decode_rdUnmapped : decoded 0b10_111_00000000#13 = some (.rdUnmapped 7#3) := by decide
theorem test_decode_reset : decoded 0b11_000_00000000#13 = some .reset := by decide

/-- Vectors DEC2, DEC3, DEC4, DEC11, DEC13 and DEC15. -/
theorem test_decode_invalid :
    [0x0001#13, 0x0100#13, 0x07FF#13, 0x1001#13, 0x10FF#13, 0x17FF#13, 0x1805#13, 0x1C00#13, 0x1F00#13].map decoded =
      List.replicate 9 none := by decide

theorem test_tableWord : decodeTableWord 16 0x0801 = some .enable ∧ decodeTableWord 13 0x1700 = some (.rdUnmapped 7#3) := by
  decide

/-! ## Operations -/

/-- Vector T2: the 125th event of Scenario A flips to FALLING. -/
theorem test_tick_flips_at_max :
    after (exec .tick (st 125 125 124 124 0 1 1 0)) = some (st 125 125 125 0 1 0 1 0) := by decide

/-- Vector T14: `d = -1` at the threshold flips to RISING, is stored as 255, and sets DUTY_RANGE. -/
theorem test_tick_below_zero :
    after (exec .tick (st 125 125 0 124 1 0 1 0)) = some (st 125 125 255 0 0 1 1 0b010) := by decide

/-- Vector W1. -/
theorem test_enable : after (exec .enable (st 125 125 0 0 0 1 0 0)) = some (st 125 125 0 0 0 1 1 0) := by decide

/-- Vector W3: EN is not cleared. -/
theorem test_wrCtrlZero : after (exec .wrCtrlZero (st 125 125 0 0 0 1 1 0)) = some (st 125 125 0 0 0 1 1 0) := by
  decide

/-- Vector W5: bit 0 of an illegal write is ignored. -/
theorem test_wrCtrlRsv :
    after (exec (.wrCtrlRsv 0x81#8) (st 125 125 0 0 0 1 0 0)) = some (st 125 125 0 0 0 1 0 0b100) := by decide

/-- Vector W9: the flags are not write-1-to-clear. -/
theorem test_wrStatus :
    after (exec (.wrStatus 0xFF#8) (st 125 125 5 5 0 1 1 0b111)) = some (st 125 125 5 5 0 1 1 0b111) := by decide

/-- Vector W10. -/
theorem test_wrDuty :
    after (exec (.wrDuty 0x40#8) (st 125 125 5 5 0 1 1 0)) = some (st 125 125 5 5 0 1 1 0b100) := by decide

/-- Vector W11. -/
theorem test_wrCnt :
    after (exec (.wrCnt 0x00#8) (st 125 125 16 16 0 1 1 0)) = some (st 125 125 16 16 0 1 1 0b100) := by decide

/-- Vector W13. -/
theorem test_wrUnmapped :
    after (exec (.wrUnmapped 5#3 0xFF#8) (st 125 125 1 1 0 1 1 0)) = some (st 125 125 1 1 0 1 1 0b100) := by decide

/-- Vector RD2. -/
theorem test_rdCtrl :
    after (exec .rdCtrl (st 125 125 0 0 0 1 1 0)) = some (reading 0x01#8 (st 125 125 0 0 0 1 1 0)) := by decide

/-- Vector RD7. -/
theorem test_rdStatus :
    after (exec .rdStatus (st 125 124 248 0 1 0 1 0b011)) = some (reading 0x0E#8 (st 125 124 248 0 1 0 1 0b011)) := by
  decide

/-- Vector RD8. -/
theorem test_rdStatus_hostErr :
    after (exec .rdStatus (st 125 125 5 5 0 1 1 0b100)) = some (reading 0x11#8 (st 125 125 5 5 0 1 1 0b100)) := by
  decide

/-- Vector RD10. -/
theorem test_rdDuty :
    after (exec .rdDuty (st 125 125 125 0 1 0 1 0)) = some (reading 0x7D#8 (st 125 125 125 0 1 0 1 0)) := by decide

/-- Vector RD11. -/
theorem test_rdCnt :
    after (exec .rdCnt (st 125 125 124 1 1 0 1 0)) = some (reading 0x01#8 (st 125 125 124 1 1 0 1 0)) := by decide

/-- Vector RD13. -/
theorem test_rdUnmapped :
    after (exec (.rdUnmapped 7#3) (st 3 3 2 2 0 1 1 0)) = some (reading 0x00#8 (st 3 3 2 2 0 1 1 0)) := by decide

/-- Vector X1, the worked example of R101. -/
theorem test_reset :
    after (exec .reset (st 125 125 0x50 0x11 1 0 1 0b110)) = some (st 125 125 0 0 0 1 0 0) := by decide

/-- Vector X2: `err[0]` is rewritten, not cleared. -/
theorem test_reset_mismatched :
    after (exec .reset (st 125 124 248 0 1 0 1 0b111)) = some (st 125 124 0 0 0 1 0 0b001) := by decide

/-- Vector X5: reads are refused before RESET too. -/
theorem test_rdStatus_at_powerOn :
    refusal (exec .rdStatus (State.powerOn { max := 3, threshold := 3 })) = some .notReset := by decide

/-- R9: (125, 132) has no instance. -/
theorem test_no_instance : refusal (exec .reset (st 125 132 0 0 0 1 0 0)) = some .noInstance := by decide

/-! ## Steps, clock cycles, text -/

/-- The first operation after reset, as the opcode table numbers it. -/
theorem test_step_enable :
    after (step (State.reset.withFetchWord 16 0x0801)) = some (st 125 125 0 0 0 1 1 0) := by decide

/-- Vector DEC15: an invalid word is refused. -/
theorem test_step_invalid : refusal (step (State.reset.withFetchWord 16 0x1805)) = some .invalidWord := by decide

/-- Vector Y1: a tick in the cycle of ENABLE is discarded. -/
theorem test_cycle_tick_and_enable :
    after (clockCycle ⟨false, true, true, false, 0#3, 0x01#8⟩ (st 125 125 0 0 0 1 0 0)) =
      some (st 125 125 0 0 0 1 1 0) := by decide

/-- Vector Y3: the READ returns the STATUS of before the WRITE. -/
theorem test_cycle_read_and_write :
    after (clockCycle ⟨false, false, true, true, 1#3, 0x00#8⟩ (st 125 125 5 5 0 1 1 0)) =
      some (reading 0x01#8 (st 125 125 5 5 0 1 1 0b100)) := by decide

/-- The example of R111: 125 events are one second where `PERIOD` is 8 ms, and in any case 125 periods. -/
theorem test_eventTime : Config.eventTime 125 = 125 * Config.period := rfl

/-- Lines of Program 3, with a comment and both numeral forms (R53). -/
theorem test_asm_line :
    parseLine ['W', 'R', ' ', 'C', 'T', 'R', 'L', ',', ' ', '0', 'x', '8', '1', ' ', ';', 'c'] =
      some (.wr 0#3 0x81#8) ∧
    parseLine ['R', 'D', ' ', '6'] = some (.rd 6#3) ∧ parseLine ['R', 'D', ' ', '8'] = none ∧
    parseLine ['W', 'R', ' ', '5', ',', '0', 'b', '1', '1'] = some (.wr 5#3 0x03#8) ∧
    parseLine [' ', ';', 'x'] = some .blank ∧ parseLine ['T', 'O', 'C', 'K'] = none := by decide

/-- `BOOT` and `TICKS 2` on two lines (R53, R54). -/
theorem test_assemble :
    assemble ['B', 'O', 'O', 'T', '\n', 'T', 'I', 'C', 'K', 'S', ' ', '2'] =
      some [0x1800#13, 0x0801#13, 0x0000#13, 0x0000#13] := by decide

/-! ## Witnesses: states and operands that meet a statement's hypotheses together -/

/-- An operable state with events enabled, on the ramp of the pair (3, 3) at its second event. -/
def wit : State := st 3 3 2 2 0 1 1 0

/-- The same with events masked. -/
def witMasked : State := st 3 3 0 0 0 1 0 0

/-- A state at the top of the ramp of the pair (3, 3), FALLING. -/
def witTop : State := st 3 3 3 0 1 0 1 0

/-- A run of the pair (3, 3): RESET, ENABLE and three TICKs (the first lines of Program 1). -/
def witRun : List OpWord := [0x1800#13, 0x0801#13, 0x0000#13, 0x0000#13, 0x0000#13]

theorem wit_operable : Operable wit := by decide
theorem witMasked_operable : Operable witMasked := by decide

theorem wit_onRamp : OnRamp wit 2 := by constructor <;> decide
theorem witTop_onRamp : OnRamp witTop 3 := by constructor <;> decide
theorem witBottom_onRamp : OnRamp (st 3 3 1 2 1 0 1 0) 5 := by constructor <;> decide

theorem wit_rampInv : RampInv wit := ⟨rfl, rfl, 2, wit_onRamp⟩

theorem wit_runFromReset : RunFromReset witRun (State.powerOn { max := 3, threshold := 3 }) witTop := ⟨rfl, rfl⟩

theorem witness_DecodeOfEncode : (Instr.wrUnmapped 4#3 0xFF#8).wf = true ∧ (Instr.wrCtrlRsv 0x02#8).wf = true ∧
    (Instr.rdUnmapped 7#3).wf = true := by decide
theorem witness_EncodeOfDecode : decode 0x0CFF#13 = .ok (.wrUnmapped 4#3 0xFF#8) := by decide
theorem witness_FieldKSelectsKind : decode 0x1700#13 = .ok (.rdUnmapped 7#3) := by decide
theorem witness_InvalidWordsRefused : decode 0x0001#13 = .error .invalidWord ∧ decode 0x1F00#13 = .error .invalidWord ∧
    decode 0x17FF#13 = .error .invalidWord ∧
    0x0801#13 ∈ (Inputs.mk false true true false 0#3 0x01#8).words := by decide
theorem witness_StepRunsDecodedOperation :
    (presentNext 0x1100#13 wit).input = 0x1100#13 :: [] ∧ decode 0x1100#13 = .ok .rdStatus ∧
      Instr.rdStatus.wf = true := by decide
theorem witness_StepIdlesWithNothingPresented : wit.input = [] := rfl
theorem witness_PlacedWordRunsNext : (Instr.wrCtrlRsv 0xFF#8).wf = true := by decide
theorem witness_ParametersAndInputUntouched : exec .tick wit = .next witTop := rfl
theorem witness_OperableBlockPerformsEveryOperation : Operable wit := wit_operable

theorem witness_EnabledTickResult : Operable wit ∧ wit.en = 1#1 ∧
    (3 : Int) = (wit.duty.toNat : Int) + (if wit.dir = 0#1 then 1 else -1) ∧ 3 = wit.cnt.toNat + 1 := by decide
theorem witness_MaskedTickDiscarded : Operable witMasked ∧ witMasked.en = 0#1 := by decide
theorem witness_TickFrame : exec .tick wit = .next witTop := rfl
/-- RISING to FALLING, and FALLING to RISING. -/
theorem witness_DirectionStateMachine :
    (wit.en = 1#1 ∧ wit.dir = 0#1 ∧ exec .tick wit = .next witTop) ∧
      (st 3 3 1 2 1 0 1 0).dir = 1#1 ∧ exec .tick (st 3 3 1 2 1 0 1 0) = .next (st 3 3 0 0 0 1 1 0) :=
  ⟨⟨rfl, rfl, rfl⟩, rfl, rfl⟩

theorem witness_EnableResult : Operable witMasked := witMasked_operable
theorem witness_CtrlZeroWritesNothing : Operable wit := wit_operable
theorem witness_IllegalWritesOnlyRaiseHostAccess : Operable wit := wit_operable
theorem witness_HostPrimitivesAreOneOperation : Operable wit := wit_operable
theorem witness_CtrlRegisterAccess : Operable witMasked ∧
    execWord (packWord 0b10#2 0#3 0x00#8) wit = .next (reading 0x01#8 wit) ∧
    exec .reset wit = .next (st 3 3 0 0 0 1 0 0) := ⟨witMasked_operable, rfl, rfl⟩
theorem witness_ReadsReturnTheirByte : Operable wit := wit_operable
theorem witness_StatusRegisterAccess :
    execWord (packWord 0b10#2 1#3 0x00#8) witTop = .next (reading 0x02#8 witTop) ∧
      exec .reset (st 125 124 5 5 0 1 1 0b111) = .next (st 125 124 0 0 0 1 0 0b001) ∧ Operable wit :=
  ⟨rfl, rfl, wit_operable⟩
theorem witness_HostAccessesIdempotent :
    (Instr.rdCnt.kind = .read ∧ exec .rdCnt wit = .next (reading 0x02#8 wit)) ∧
      (Instr.wrDuty 0x40#8).kind = .write ∧ exec (.wrDuty 0x40#8) wit = .next (st 3 3 2 2 0 1 1 0b100) :=
  ⟨⟨rfl, rfl⟩, rfl, rfl⟩
theorem witness_HostOperationsFrame : Instr.enable.kind = .write ∧ exec .enable witMasked = .next (st 3 3 0 0 0 1 1 0) :=
  ⟨rfl, rfl⟩

theorem witness_ResetResult : wit.cfg.wf = true ∧ (Inputs.mk true true true true 2#3 0x00#8).rst = true := by decide
theorem witness_ResetForgetsThePast : wit.cfg = witTop.cfg ∧ wit.input = witTop.input := ⟨rfl, rfl⟩
theorem witness_RefusedBeforeReset : (State.powerOn Config.reference).cfg.wf = true ∧
    (State.powerOn Config.reference).wasReset = false ∧ Instr.tick ≠ .reset ∧ Config.reference.wf = true := by decide
theorem witness_IllFormedParametersRefused : (st 125 132 0 0 0 1 0 0).cfg.wf = false := by decide
/-- A mismatched pair and a matched one. -/
theorem witness_ResetRaisesCfgMismatch : (st 125 124 0 0 0 1 0 0).cfg.wf = true ∧ wit.cfg.wf = true := by decide

/-- A TICK that sets DUTY_RANGE (vector T10), a RESET, and an illegal write. -/
theorem witness_FlagsAfterEachOperation :
    exec .tick (st 125 124 125 1 0 1 1 0b001) = .next (st 125 124 126 2 0 1 1 0b011) ∧
      exec .reset (st 125 124 125 1 0 1 1 0b111) = .next (st 125 124 0 0 0 1 0 0b001) ∧
      exec (.wrCnt 0#8) wit = .next (st 3 3 2 2 0 1 1 0b100) := ⟨rfl, rfl, rfl⟩
theorem witness_FlagsAreSticky : exec .tick (st 3 3 0 0 0 1 1 0b111) = .next (st 3 3 1 1 0 1 1 0b111) ∧
    Instr.tick ≠ .reset ∧ (st 3 3 0 0 0 1 1 0b111).flag .cfgMismatch = true ∧
    (st 3 3 0 0 0 1 1 0b111).flag .dutyRange = true ∧ (st 3 3 0 0 0 1 1 0b111).flag .hostAccess = true :=
  ⟨rfl, by decide, rfl, rfl, rfl⟩
theorem witness_FlagsSteerNothing : exec .rdStatus witTop = .next (reading 0x02#8 witTop) ∧
    exec .tick wit = .next witTop := ⟨rfl, rfl⟩
theorem witness_OnlyEnableEnablesOnlyResetDisables :
    exec .enable witMasked = .next (st 3 3 0 0 0 1 1 0) ∧ exec .reset wit = .next (st 3 3 0 0 0 1 0 0) := ⟨rfl, rfl⟩

theorem witness_ClockCycleOrder : (Inputs.mk true true true true 2#3 0x00#8).rst = true ∧
    (Inputs.mk false true true true 7#3 0x00#8).rst = false ∧ Operable wit ∧
    Operable witMasked ∧ witMasked.en = 0#1 := by decide
theorem witness_WindowHasEightOffsets : Config.hostBase + 8 < Config.hostBase ∨
    Config.hostBase + 8 ≤ Config.hostBase + 8 := Or.inr (Nat.le_refl _)
theorem witness_TicksAreNeverMergedOrLost : Operable wit := wit_operable

theorem witness_CompanionMirrorsDirection :
    RunFromReset witRun (State.powerOn { max := 3, threshold := 3 }) witTop := wit_runFromReset
theorem witness_StepKeepsCompanionMirror :
    CompanionMirror wit ∧ step (presentNext 0x0000#13 wit) = .next witTop := ⟨by unfold CompanionMirror; decide, rfl⟩
theorem witness_StepKeepsRampInvariant :
    RampInv (presentNext 0x0000#13 wit) ∧ step (presentNext 0x0000#13 wit) = .next witTop :=
  ⟨⟨rfl, rfl, 2, by constructor <;> decide⟩, rfl⟩
theorem witness_ResetIsOnTheRamp : (Config.Params.mk 125 124).wf = true := by decide
/-- A run of a matched pair; the same run of (2, 3), whose threshold does not divide MAX, which ends at event
`MAX + 1` with `duty = MAX + 1` and DUTY_RANGE set (Program 4); a well-formed pair whose threshold divides MAX, and one
whose threshold does not. -/
theorem witness_ClosedFormForEveryPair :
    RunFromReset witRun (State.powerOn { max := 3, threshold := 3 }) witTop ∧
      RunFromReset witRun (State.powerOn { max := 2, threshold := 3 }) (st 2 3 3 0 1 0 1 0b011) ∧
      countEvents witRun (State.powerOn { max := 2, threshold := 3 }) 0 = 2 + 1 ∧
      (Config.Params.mk 4 2).wf = true ∧ 2 ∣ 4 ∧ (Config.Params.mk 2 3).wf = true ∧ ¬ 3 ∣ 2 :=
  ⟨wit_runFromReset, ⟨rfl, rfl⟩, rfl, by decide, by decide, by decide, by decide⟩
theorem witness_ClosedFormMatched :
    RunFromReset witRun (State.powerOn { max := 3, threshold := 3 }) witTop ∧ witTop.cfg.max = 3 ∧
      witTop.cfg.threshold = 3 ∧ 3 = countEvents witRun (State.powerOn { max := 3, threshold := 3 }) 0 ∧
      3 = 3 % (2 * 3) := ⟨wit_runFromReset, rfl, rfl, rfl, rfl⟩
/-- At the top, where the direction flips, and at the first falling event, where it does not. -/
theorem witness_MatchedFlipsExactlyAtExtremes :
    (RampInv wit ∧ wit.cfg.max = wit.cfg.threshold ∧ wit.en = 1#1 ∧ exec .tick wit = .next witTop) ∧
      RampInv witTop ∧ exec .tick witTop = .next (st 3 3 2 1 1 0 1 0) :=
  ⟨⟨wit_rampInv, rfl, rfl, rfl⟩, ⟨rfl, rfl, 3, witTop_onRamp⟩, rfl⟩
theorem witness_EnabledTickMovesDutyOneStep :
    RampInv (st 3 3 1 2 1 0 1 0) ∧ exec .tick (st 3 3 1 2 1 0 1 0) = .next (st 3 3 0 0 0 1 1 0) :=
  ⟨⟨rfl, rfl, 5, witBottom_onRamp⟩, rfl⟩
theorem witness_NoWrapFromReset :
    RunFromReset witRun (State.powerOn { max := 3, threshold := 3 }) witTop := wit_runFromReset
theorem witness_CounterStaysBelowThreshold :
    RunFromReset witRun (State.powerOn { max := 3, threshold := 3 }) witTop := wit_runFromReset
/-- Above `MAX`, below 0 (vector T13), and a pair whose threshold does not divide MAX. -/
theorem witness_DutyRangeExactly :
    (exec .tick (st 125 124 125 1 0 1 1 0b001) = .next (st 125 124 126 2 0 1 1 0b011) ∧
      nextDuty (st 125 124 125 1 0 1 1 0b001) = 126) ∧
    (exec .tick (st 125 125 0 5 1 0 1 0) = .next (st 125 125 255 6 1 0 1 0b010) ∧
      nextDuty (st 125 125 0 5 1 0 1 0) = -1) ∧
    (Config.Params.mk 2 3).wf = true ∧ ¬ 3 ∣ 2 := ⟨⟨rfl, rfl⟩, ⟨rfl, rfl⟩, by decide, by decide⟩
/-- At the threshold, where the counter wraps. -/
theorem witness_StepKeepsCounterBelowThreshold :
    (Config.Params.mk 3 3).wf = true ∧ CounterBelow (presentNext 0x0000#13 wit) ∧
      step (presentNext 0x0000#13 wit) = .next witTop := ⟨rfl, by unfold CounterBelow; decide, rfl⟩
/-- A mismatched instance at the event that sets DUTY_RANGE. -/
theorem witness_StepKeepsMismatchFlagged :
    MismatchFlagged (presentNext 0x0000#13 (st 125 124 125 1 0 1 1 0b001)) ∧
      step (presentNext 0x0000#13 (st 125 124 125 1 0 1 1 0b001)) = .next (st 125 124 126 2 0 1 1 0b011) :=
  ⟨by unfold MismatchFlagged; decide, rfl⟩
theorem witness_StepKeepsLegalMatchedUnfaulted :
    (Config.Params.mk 3 3).wf = true ∧ (Config.Params.mk 3 3).matched = true ∧
      LegalUnfaulted (presentNext 0x0000#13 wit) ∧ step (presentNext 0x0000#13 wit) = .next witTop :=
  ⟨rfl, rfl, ⟨⟨rfl, rfl, 2, by constructor <;> decide⟩, rfl, rfl,
    fun _ hw => ⟨.tick, by rw [List.mem_singleton.1 hw]; decide, rfl⟩⟩, rfl⟩
theorem witness_MatchedCycleCloses : RampInv wit ∧ wit.cfg.max = wit.cfg.threshold ∧ wit.en = 1#1 :=
  ⟨wit_rampInv, rfl, rfl⟩
theorem witness_MatchedLegalRunsAreGood :
    (State.powerOn { max := 3, threshold := 3 }).cfg.wf = true ∧
      (State.powerOn { max := 3, threshold := 3 }).cfg.matched = true ∧ startsWithReset witRun = true ∧
      witRun.map decode = [.ok .reset, .ok .enable, .ok .tick, .ok .tick, .ok .tick] ∧
      [Instr.reset, .enable, .tick].map illegalInstr = [false, false, false] :=
  ⟨rfl, rfl, rfl, rfl, rfl⟩
theorem witness_RunIsObservedOperationByOperation :
    RunFromReset witRun (State.powerOn { max := 3, threshold := 3 }) witTop := wit_runFromReset
theorem witness_MismatchedRunsAreNeverGood :
    (State.powerOn { max := 2, threshold := 3 }).cfg.max ≠ (State.powerOn { max := 2, threshold := 3 }).cfg.threshold := by
  decide
theorem witness_AssembledLinesDecode : 0x0801#13 ∈ AsmLine.boot.words := by decide
theorem witness_BootFromPowerOn : Config.reference.wf = true := by decide

end Sys2Proof.Tests
end

/-! The scope of the model (spec 00_scope.md): one operation a step (R13), which parameter pairs are refused
(R9), and the mismatched pairs that run (R10). -/

namespace Sys2Proof.Machine

variable {s : State}

/-! ## The step, by what is presented -/

theorem step_of_nil (h : s.input = []) : step s = .next (quiet s) := by
  simp [step, fetch_nil h, idle]

theorem step_of_cons {w : OpWord} {ws : List OpWord} (h : s.input = w :: ws) :
    step s = execWord w { s with input := ws } := by
  simp [step, fetch_cons h]

/-- Settles O7: the oldest word is fetched, and a word that decodes is performed as its operation. -/
theorem stepRunsDecodedOperation : Obligations.StepRunsDecodedOperation := by
  intro s w ws i hinput hdecode _
  calc step s
    _ = execWord w { s with input := ws } := step_of_cons hinput
    _ = exec i { s with input := ws } := execWord_of_decode hdecode

/-- Settles O8: nothing is fetched, and the idle step only takes the byte off `host_rdata`. -/
theorem stepIdlesWithNothingPresented : Obligations.StepIdlesWithNothingPresented :=
  fun _ hinput => step_of_nil hinput

/-! ## Parameter pairs -/

theorem params_wf_iff (p : Config.Params) :
    p.wf = true ↔ 1 ≤ p.max ∧ 1 ≤ p.threshold ∧ p.max + p.threshold - 1 ≤ 255 := by
  simp [Config.Params.wf, and_assoc]

theorem params_matched_iff (p : Config.Params) : p.matched = true ↔ p.max = p.threshold := by
  simp [Config.Params.matched]

theorem perform_of_not_wf {f : State → State} (h : s.cfg.wf = false) : perform s f = .refused .noInstance := by
  simp [perform, h]

theorem performAlways_of_not_wf {f : State → State} (h : s.cfg.wf = false) :
    performAlways s f = .refused .noInstance := by
  simp [performAlways, h]

/-- For an ill-formed pair RESET is refused like every other operation (R9). -/
theorem exec_of_not_wf (i : Instr) (h : s.cfg.wf = false) : exec i s = .refused .noInstance := by
  by_cases hi : i = .reset
  · rw [hi, exec_reset_eq, performAlways_of_not_wf h]
  · rw [exec_eq_perform hi, perform_of_not_wf h]

/-- Settles O29: the three checks are the three conjuncts of `wf`, and both ways of performing an operation begin
with them. -/
theorem illFormedParametersRefused : Obligations.IllFormedParametersRefused :=
  ⟨params_wf_iff, fun i _ h => exec_of_not_wf i h, by decide⟩

/-! ## RESET and the flags -/

theorem exec_reset_of_wf (h : s.cfg.wf = true) : exec .reset s = .next (resetWrites (quiet s)) := by
  rw [exec_reset_eq, performAlways_next h]

/-- RESET sets CFG_MISMATCH for a mismatched pair, and no other flag (R88, R101). -/
theorem flag_resetWrites (k : Cause) :
    (resetWrites s).flag k = (decide (k = .cfgMismatch) && !s.cfg.matched) := by
  rw [State.flag, resetWrites_err, resetErr_eq]
  cases hm : s.cfg.matched <;> cases k <;> rfl

/-- Settles O30: RESET of a well-formed pair completes, and of the flags it writes `err[0]` is the mismatch. -/
theorem resetRaisesCfgMismatch : Obligations.ResetRaisesCfgMismatch := by
  refine ⟨params_matched_iff, fun s hwf => ⟨resetWrites (quiet s), exec_reset_of_wf hwf, ?operable, ?flag⟩⟩
  case operable => exact ⟨hwf, resetWrites_wasReset _⟩
  case flag => simp [flag_resetWrites]

end Sys2Proof.Machine

/-! What an operation does to the registers (spec 10_state.md R15 to R29): the frame of each operation, the flags,
the CTRL and STATUS bytes, the companion and the counter. -/

namespace Sys2Proof.Machine

variable {s t : State}

/-! ## Frames -/

/-- The two states agree on the parameters, on `was_reset` and on the registers of the ramp. They may differ in `en`,
in HOST_ACCESS and in the fields of the model's own. -/
structure SameRamp (s t : State) : Prop where
  cfg : t.cfg = s.cfg
  wasReset : t.wasReset = s.wasReset
  duty : t.duty = s.duty
  cnt : t.cnt = s.cnt
  dir : t.dir = s.dir
  comp : t.comp = s.comp
  range : t.flag .dutyRange = s.flag .dutyRange
  mismatch : t.flag .cfgMismatch = s.flag .cfgMismatch

theorem sameRamp_quiet : SameRamp s (quiet s) := ⟨rfl, rfl, rfl, rfl, rfl, rfl, rfl, rfl⟩

theorem sameRamp_withInput (ws : List OpWord) : SameRamp s { s with input := ws } :=
  ⟨rfl, rfl, rfl, rfl, rfl, rfl, rfl, rfl⟩

theorem flag_raiseIf (b : Bool) (k j : Cause) : (raiseIf b k s).flag j = (s.flag j || (b && decide (j = k))) := by
  cases b
  · simp [raiseIf]
  · simp [raiseIf, flag_raise]

/-- A host operation changes nothing but `en`, HOST_ACCESS and the byte on `host_rdata` (R84). -/
theorem effect_of_host {i : Instr} (htick : i ≠ .tick) (hreset : i ≠ .reset) :
    ∃ (b : Bool) (e : Bit) (r : Option Byte), effect i s = { raiseIf b .hostAccess s with en := e, rdata := r } := by
  cases i with
  | tick => exact absurd rfl htick
  | reset => exact absurd rfl hreset
  | enable => exact ⟨false, 1#1, s.rdata, rfl⟩
  | wrCtrlZero => exact ⟨false, s.en, s.rdata, rfl⟩
  | wrCtrlRsv | wrStatus | wrDuty | wrCnt | wrUnmapped => exact ⟨true, s.en, s.rdata, rfl⟩
  | rdCtrl => exact ⟨false, s.en, some (ctrlByte s), rfl⟩
  | rdStatus => exact ⟨false, s.en, some (statusByte s), rfl⟩
  | rdDuty => exact ⟨false, s.en, some (dutyByte s), rfl⟩
  | rdCnt => exact ⟨false, s.en, some (cntByte s), rfl⟩
  | rdUnmapped => exact ⟨false, s.en, some unmappedByte, rfl⟩

/-- Only TICK and RESET write the registers of the ramp. -/
theorem effect_sameRamp {i : Instr} (htick : i ≠ .tick) (hreset : i ≠ .reset) : SameRamp s (effect i s) := by
  obtain ⟨b, e, r, heffect⟩ := effect_of_host (s := s) htick hreset
  have hflag (k : Cause) (hk : k ≠ .hostAccess) : (effect i s).flag k = s.flag k := by
    rw [heffect]
    exact (flag_raiseIf b .hostAccess k).trans (by simp [hk])
  constructor
  case range => exact hflag .dutyRange (by decide)
  case mismatch => exact hflag .cfgMismatch (by decide)
  all_goals rw [heffect, raiseIf_eq]

/-- What is kept by TICK, established by RESET and a matter of the ramp's registers is kept by every operation. -/
theorem exec_keeps {I : State → Prop} (hsame : ∀ {s t : State}, SameRamp s t → I s → I t)
    (htick : ∀ {s : State}, I s → I (tickEvent s)) (hreset : ∀ {s : State}, s.cfg.wf = true → I (resetWrites s))
    {i : Instr} (hs : I s) (hexec : exec i s = .next t) : I t := by
  obtain ⟨hwf, -, rfl⟩ := exec_next_iff.1 hexec
  have hquiet : I (quiet s) := hsame sameRamp_quiet hs
  by_cases hitick : i = .tick
  · subst hitick
    exact htick hquiet
  by_cases hireset : i = .reset
  · subst hireset
    exact hreset hwf
  exact hsame (effect_sameRamp hitick hireset) hquiet

/-- The step's form of `exec_keeps`: an idle step and taking the oldest word touch no register. -/
theorem step_keeps {I : State → Prop} (hsame : ∀ {s t : State}, SameRamp s t → I s → I t)
    (htick : ∀ {s : State}, I s → I (tickEvent s)) (hreset : ∀ {s : State}, s.cfg.wf = true → I (resetWrites s))
    (hs : I s) (hstep : step s = .next t) : I t := by
  rcases step_next_iff.1 hstep with ⟨-, rfl⟩ | ⟨w, ws, i, -, -, hexec⟩
  · exact hsame sameRamp_quiet hs
  · exact exec_keeps hsame htick hreset (hsame (sameRamp_withInput ws) hs) hexec

/-! ## `was_reset` and the fields of the model's own -/

theorem effect_wasReset (i : Instr) : (effect i s).wasReset = (decide (i = .reset) || s.wasReset) := by
  by_cases htick : i = .tick
  · simp [htick, effect]
  by_cases hreset : i = .reset
  · simp [hreset, effect]
  · simp [(effect_sameRamp (s := s) htick hreset).wasReset, hreset]

/-- Settles O11: an operation is performed only after a RESET or as one, and no operation takes the mark back. -/
theorem parametersAndInputUntouched : Obligations.ParametersAndInputUntouched := by
  intro i s t hexec
  obtain ⟨-, hreset, rfl⟩ := exec_next_iff.1 hexec
  obtain ⟨hcfg, hinput⟩ := effect_frame (s := quiet s) i
  refine ⟨hcfg, hinput, ?_⟩
  rw [effect_wasReset]
  simpa using hreset

theorem perform_of_not_reset {f : State → State} (hwf : s.cfg.wf = true) (h : s.wasReset = false) :
    perform s f = .refused .notReset := by
  simp [perform, hwf, h]

/-- RESET leads to the reset state, but for the words still waiting. -/
theorem exec_reset_eq_resetOf (hwf : s.cfg.wf = true) :
    exec .reset s = .next { State.resetOf s.cfg with input := s.input } := by
  rw [exec_reset_of_wf hwf, resetWrites_eq]

/-- Settles O28: all but RESET are performed only after one, and RESET from power-on finds no word waiting. -/
theorem refusedBeforeReset : Obligations.RefusedBeforeReset := by
  constructor
  · intro i s hwf hmark hi
    rw [exec_eq_perform hi, perform_of_not_reset hwf hmark]
  · intro p hp
    exact ⟨rfl, exec_reset_eq_resetOf (s := State.powerOn p) hp⟩

/-! ## `en` and the outputs -/

theorem effect_en (i : Instr) :
    (effect i s).en = if i = .enable then 1#1 else if i = .reset then 0#1 else s.en := by
  cases i <;> simp [effect]

/-- Settles O34: ENABLE writes 1, RESET writes 0, and no other operation writes `en`. -/
theorem onlyEnableEnablesOnlyResetDisables : Obligations.OnlyEnableEnablesOnlyResetDisables := by
  intro i s t hexec
  obtain ⟨-, -, rfl⟩ := exec_next_iff.1 hexec
  rw [effect_en]
  by_cases henable : i = .enable
  · simp [henable]
  by_cases hreset : i = .reset
  · simp [hreset]
  · simp [henable, hreset]

/-- Settles O35: each output is driven from its register. -/
theorem outputsAreRegisters : Obligations.OutputsAreRegisters := fun _ => ⟨rfl, rfl, rfl⟩

/-! ## The flags -/

/-- TICK raises DUTY_RANGE and no other flag (R61, R65). -/
theorem flag_tickEvent (k : Cause) :
    (tickEvent s).flag k =
      (s.flag k || (decide (s.en = 1#1) && outOfRange s.cfg (nextDuty s) && decide (k = .dutyRange))) := by
  rcases en_eq_zero_or_one s.en with hen | hen
  · simp [tickEvent_of_masked hen, hen]
  · have herr : (tickEvent s).flag k = (raiseIf (outOfRange s.cfg (nextDuty s)) .dutyRange s).flag k := by
      rw [tickEvent_of_enabled hen, periodicEvent_eq, raiseIf_eq]
      rfl
    simp [herr, flag_raiseIf, hen]

theorem effect_keeps_flag {i : Instr} (hi : i ≠ .reset) {k : Cause} (h : s.flag k = true) :
    (effect i s).flag k = true := by
  by_cases htick : i = .tick
  · subst htick
    exact (flag_tickEvent k).trans (by simp [h])
  · obtain ⟨b, e, r, heffect⟩ := effect_of_host (s := s) htick hi
    rw [heffect]
    exact (flag_raiseIf b .hostAccess k).trans (by simp [h])

/-- Settles O32: TICK and the host operations only raise flags. -/
theorem flagsAreSticky : Obligations.FlagsAreSticky := by
  intro i s t k hexec hi hflag
  obtain ⟨-, -, rfl⟩ := exec_next_iff.1 hexec
  exact effect_keeps_flag (s := quiet s) hi hflag

/-! ## CTRL and STATUS -/

theorem decode_packWord_write (off : Offset) (data : Byte) :
    decode (packWord 0b01#2 off data) = .ok (writeInstr off data) := by
  simp [decode]

theorem decode_packWord_read (off : Offset) : decode (packWord 0b10#2 off 0x00#8) = .ok (readInstr off) := by
  simp [decode]

theorem exec_of_operable (i : Instr) (h : Operable s) : exec i s = .next (effect i (quiet s)) :=
  exec_next_iff.2 ⟨h.1, .inr h.2, rfl⟩

/-- A WRITE word performs HostWrite (R34). -/
theorem effect_writeInstr (off : Offset) (data : Byte) : effect (writeInstr off data) s = hostWrite off data s := by
  unfold writeInstr hostWrite
  split_ifs <;> rfl

theorem execWord_write (off : Offset) (data : Byte) (h : Operable s) :
    execWord (packWord 0b01#2 off data) s = .next (hostWrite off data (quiet s)) := by
  rw [execWord_of_decode (decode_packWord_write off data), exec_of_operable _ h, effect_writeInstr]

/-- A READ word performs HostRead (R34). -/
theorem effect_readInstr (off : Offset) : effect (readInstr off) s = returnByte (hostRead off s) s := by
  unfold readInstr hostRead
  split_ifs <;> rfl

theorem execWord_read_next {off : Offset} (h : execWord (packWord 0b10#2 off 0x00#8) s = .next t) :
    t = returnByte (hostRead off s) (quiet s) := by
  rw [execWord_of_decode (decode_packWord_read off)] at h
  obtain ⟨-, -, rfl⟩ := exec_next_iff.1 h
  exact effect_readInstr off

/-- HostWrite at CTRL (R23): 1 enables, 0 does nothing, and a reserved bit makes the whole write illegal. -/
theorem hostWrite_ctrl (data : Byte) :
    hostWrite 0#3 data s =
      { s with
        en := if data = 0x01#8 then 1#1 else s.en
        err := if data.extractLsb' 1 7 ≠ 0#7 then s.err ||| 0b100#3 else s.err } := by
  by_cases hone : data = 0x01#8
  · subst hone
    rfl
  by_cases hzero : data = 0x00#8
  · subst hzero
    rfl
  have hreserved : data.extractLsb' 1 7 ≠ 0#7 := by
    simpa [setsReservedCtrl] using (setsReservedCtrl_iff data).2 ⟨hone, hzero⟩
  simp only [hostWrite, hone, hzero, hreserved, if_true, if_false, ne_eq, not_false_eq_true]
  rfl

theorem ctrlByte_fields :
    (ctrlByte s).extractLsb' 0 1 = s.en ∧ (ctrlByte s).extractLsb' 1 7 = 0#7 := by
  unfold ctrlByte
  generalize s.en = e
  revert e
  decide

theorem ctrlByte_resetWrites : ctrlByte (resetWrites s) = 0x00#8 := by simp [ctrlByte]

/-- Settles O21: a WRITE word is HostWrite, a READ word returns the CTRL byte, and RESET clears `en`. -/
theorem ctrlRegisterAccess : Obligations.CtrlRegisterAccess := by
  refine ⟨?write, ?read, ?reset⟩
  case write =>
    intro s data hoperable
    rw [execWord_write _ _ hoperable, hostWrite_ctrl]
    rfl
  case read =>
    intro s t hread
    rw [execWord_read_next hread]
    exact ⟨ctrlByte s, rfl, ctrlByte_fields⟩
  case reset =>
    intro s t hreset
    obtain ⟨-, -, rfl⟩ := exec_next_iff.1 hreset
    exact ctrlByte_resetWrites

/-- The fields of STATUS as R24 lays them out. -/
theorem statusByte_fields :
    (statusByte s).extractLsb' 0 1 = s.comp ∧ (statusByte s).extractLsb' 1 1 = s.dir ∧
      (statusByte s).getLsbD 2 = s.flag .cfgMismatch ∧ (statusByte s).getLsbD 3 = s.flag .dutyRange ∧
      (statusByte s).getLsbD 4 = s.flag .hostAccess ∧ (statusByte s).extractLsb' 5 3 = 0#3 := by
  unfold statusByte State.flag Cause.code
  generalize s.err = e, s.dir = d, s.comp = c
  revert e d c
  decide

theorem statusByte_resetWrites :
    statusByte (resetWrites s) = if s.cfg.max ≠ s.cfg.threshold then 0b00000101#8 else 0b00000001#8 := by
  unfold statusByte
  by_cases h : s.cfg.max = s.cfg.threshold <;> simp [resetErr, h]

/-- Settles O23: a READ word returns the STATUS byte, RESET leaves CFG_MISMATCH and `comp` in it, and HostWrite of any
offset but CTRL is illegal. -/
theorem statusRegisterAccess : Obligations.StatusRegisterAccess := by
  refine ⟨?read, ?reset, ?write⟩
  case read =>
    intro s t hread
    rw [execWord_read_next hread]
    exact ⟨statusByte s, rfl, statusByte_fields⟩
  case reset =>
    intro s t hreset
    obtain ⟨-, -, rfl⟩ := exec_next_iff.1 hreset
    exact statusByte_resetWrites
  case write =>
    intro s data hoperable
    exact execWord_write 1#3 data hoperable

/-! ## The companion -/

/-- Every write of `dir` by TICK comes with the mirrored write of `comp` (R29). -/
theorem tickEvent_companionMirror (h : CompanionMirror s) : CompanionMirror (tickEvent s) := by
  unfold CompanionMirror at *
  rw [tickEvent_eq]
  dsimp only
  split_ifs
  · exact h
  · rfl
  · rfl
  · exact h
  · exact h

theorem resetWrites_companionMirror : CompanionMirror (resetWrites s) := by
  simp [CompanionMirror]

theorem SameRamp.companionMirror (hsame : SameRamp s t) (h : CompanionMirror s) : CompanionMirror t := by
  rw [CompanionMirror, hsame.comp, hsame.dir]
  exact h

theorem exec_companionMirror {i : Instr} (h : CompanionMirror s) (hexec : exec i s = .next t) : CompanionMirror t :=
  exec_keeps SameRamp.companionMirror tickEvent_companionMirror (fun _ => resetWrites_companionMirror) h hexec

/-- Settles O41: TICK keeps the mirror, RESET makes it, and no other operation writes `dir` or `comp`. -/
theorem stepKeepsCompanionMirror : Obligations.StepKeepsCompanionMirror := fun _ _ =>
  step_keeps SameRamp.companionMirror tickEvent_companionMirror fun _ => resetWrites_companionMirror

/-! ## The counter -/

theorem tickEvent_counterBelow (h : CounterBelow s) : CounterBelow (tickEvent s) := by
  obtain ⟨hwf, hcnt⟩ := h
  obtain ⟨hmax, hthreshold, hbyte⟩ := (params_wf_iff s.cfg).1 hwf
  refine ⟨by rw [tickEvent_cfg]; exact hwf, ?_⟩
  rw [tickEvent_cfg]
  rcases en_eq_zero_or_one s.en with hen | hen
  · rw [tickEvent_of_masked hen]
    exact hcnt
  · rw [tickEvent_of_enabled hen, periodicEvent_eq]
    dsimp only
    split_ifs with hwrap
    · exact hthreshold
    · rw [nextCount] at *
      rw [BitVec.toNat_ofNat, Nat.mod_eq_of_lt (by omega)]
      omega

theorem resetWrites_counterBelow (hwf : s.cfg.wf = true) : CounterBelow (resetWrites s) :=
  ⟨hwf, ((params_wf_iff s.cfg).1 hwf).2.1⟩

theorem SameRamp.counterBelow (hsame : SameRamp s t) (h : CounterBelow s) : CounterBelow t := by
  rw [CounterBelow, hsame.cfg, hsame.cnt]
  exact h

/-- Settles O58: an event counts up only below `THRESHOLD - 1` and wraps there, RESET clears the counter, and no other
operation writes it. -/
theorem stepKeepsCounterBelowThreshold : Obligations.StepKeepsCounterBelowThreshold := by
  constructor
  · intro p hp
    exact ⟨hp, ((params_wf_iff p).1 hp).2.1⟩
  · intro s t
    exact step_keeps SameRamp.counterBelow tickEvent_counterBelow resetWrites_counterBelow

end Sys2Proof.Machine

/-! The arithmetic of the ramp's closed form (spec 10_state.md R30, R31): its peak, its period, and what one more
event does to each of its functions. -/

namespace Sys2Proof.Machine

open Config (Params)

/-- Counting up by one in a residue class: the counter wraps where it reaches the modulus. -/
theorem add_one_mod_eq_ite {m : Nat} (hm : 0 < m) (n : Nat) :
    (n + 1) % m = if n % m + 1 = m then 0 else n % m + 1 := by
  have hlt := Nat.mod_lt n hm
  rw [← Nat.mod_add_mod]
  split_ifs with h
  · rw [h, Nat.mod_self]
  · exact Nat.mod_eq_of_lt (by omega)

theorem mod_add_one_eq_iff_dvd {m : Nat} (hm : 0 < m) (n : Nat) : n % m + 1 = m ↔ m ∣ n + 1 := by
  rw [Nat.dvd_iff_mod_eq_zero, add_one_mod_eq_ite hm]
  split_ifs with h
  · simp [h]
  · simp [h]

section Peak

variable {p : Params}

theorem max_pos (hp : p.wf = true) : 0 < p.max := ((params_wf_iff p).1 hp).1

theorem threshold_pos (hp : p.wf = true) : 0 < p.threshold := ((params_wf_iff p).1 hp).2.1

/-! ## The peak: the least multiple of THRESHOLD that is not below MAX -/

theorem threshold_dvd_rampPeak (p : Params) : p.threshold ∣ rampPeak p := Nat.dvd_mul_left _ _

theorem threshold_dvd_period (p : Params) : p.threshold ∣ 2 * rampPeak p :=
  Dvd.dvd.mul_left (threshold_dvd_rampPeak p) 2

theorem rampPeak_le (p : Params) : rampPeak p ≤ p.max + p.threshold - 1 := Nat.div_mul_le_self _ _

theorem max_le_rampPeak (hp : p.wf = true) : p.max ≤ rampPeak p := by
  have hdiv := Nat.div_add_mod' (p.max + p.threshold - 1) p.threshold
  have hmod := Nat.mod_lt (p.max + p.threshold - 1) (threshold_pos hp)
  unfold rampPeak
  omega

theorem rampPeak_pos (hp : p.wf = true) : 0 < rampPeak p :=
  Nat.lt_of_lt_of_le (max_pos hp) (max_le_rampPeak hp)

theorem rampPeak_le_of_dvd (hp : p.wf = true) {d : Nat} (hdvd : p.threshold ∣ d) (hmax : p.max ≤ d) :
    rampPeak p ≤ d := by
  have hpos := max_pos hp
  have hle := rampPeak_le p
  exact Nat.le_of_lt_add_of_dvd (by omega) (threshold_dvd_rampPeak p) hdvd

theorem rampPeak_eq_max_iff (hp : p.wf = true) : rampPeak p = p.max ↔ p.threshold ∣ p.max := by
  constructor
  · intro h
    exact h ▸ threshold_dvd_rampPeak p
  · intro h
    exact Nat.le_antisymm (rampPeak_le_of_dvd hp h (Nat.le_refl _)) (max_le_rampPeak hp)

theorem rampPeak_of_matched (hp : p.wf = true) (hm : p.max = p.threshold) : rampPeak p = p.max :=
  (rampPeak_eq_max_iff hp).2 (hm ▸ Nat.dvd_refl _)

/-- A threshold that does not divide `MAX` puts the peak above `MAX`. -/
theorem max_lt_rampPeak (hp : p.wf = true) (h : ¬ p.threshold ∣ p.max) : p.max < rampPeak p :=
  Nat.lt_of_le_of_ne (max_le_rampPeak hp) fun heq => h ((rampPeak_eq_max_iff hp).1 heq.symm)

/-! ## The phase -/

theorem rampPhase_lt (hp : p.wf = true) (n : Nat) : rampPhase p n < 2 * rampPeak p :=
  Nat.mod_lt _ (by have := rampPeak_pos hp; omega)

theorem rampPhase_add_one (hp : p.wf = true) (n : Nat) :
    rampPhase p (n + 1) = if rampPhase p n + 1 = 2 * rampPeak p then 0 else rampPhase p n + 1 :=
  add_one_mod_eq_ite (by have := rampPeak_pos hp; omega) n

theorem rampPhase_le_self (p : Params) (n : Nat) : rampPhase p n ≤ n := Nat.mod_le _ _

theorem rampPhase_of_lt {n : Nat} (h : n < 2 * rampPeak p) : rampPhase p n = n := Nat.mod_eq_of_lt h

theorem rampPhase_add_period (p : Params) (n : Nat) : rampPhase p (n + 2 * rampPeak p) = rampPhase p n :=
  Nat.add_mod_right _ _

theorem threshold_dvd_rampPhase_iff (p : Params) (n : Nat) : p.threshold ∣ rampPhase p n ↔ p.threshold ∣ n :=
  Nat.dvd_mod_iff (threshold_dvd_period p)

/-! ## Duty -/

theorem rampDuty_le_rampPeak (p : Params) (n : Nat) : rampDuty p n ≤ rampPeak p := by
  unfold rampDuty
  split_ifs <;> omega

theorem rampDuty_le_255 (hp : p.wf = true) (n : Nat) : rampDuty p n ≤ 255 := by
  obtain ⟨-, -, hbyte⟩ := (params_wf_iff p).1 hp
  exact (rampDuty_le_rampPeak p n).trans ((rampPeak_le p).trans hbyte)

theorem rampDuty_le_self (p : Params) (n : Nat) : rampDuty p n ≤ n := by
  have hphase := rampPhase_le_self p n
  unfold rampDuty
  split_ifs <;> omega

theorem rampDuty_of_le {n : Nat} (hp : p.wf = true) (h : n ≤ rampPeak p) : rampDuty p n = n := by
  have hpos := rampPeak_pos hp
  have hphase : rampPhase p n = n := rampPhase_of_lt (by omega)
  rw [rampDuty, hphase, if_pos h]

theorem rampDuty_eq_zero_iff (hp : p.wf = true) (n : Nat) : rampDuty p n = 0 ↔ rampPhase p n = 0 := by
  have hlt := rampPhase_lt hp n
  unfold rampDuty
  split_ifs <;> omega

theorem rampDuty_eq_rampPeak_iff (hp : p.wf = true) (n : Nat) :
    rampDuty p n = rampPeak p ↔ rampPhase p n = rampPeak p := by
  have hlt := rampPhase_lt hp n
  unfold rampDuty
  split_ifs <;> omega

theorem threshold_dvd_rampDuty {n : Nat} (h : p.threshold ∣ n) : p.threshold ∣ rampDuty p n := by
  have hphase := (threshold_dvd_rampPhase_iff p n).2 h
  unfold rampDuty
  split_ifs
  · exact hphase
  · exact Nat.dvd_sub (threshold_dvd_period p) hphase

/-- At the threshold the duty is at or above `MAX` only at the peak. -/
theorem max_le_rampDuty_iff (hp : p.wf = true) {n : Nat} (h : p.threshold ∣ n) :
    p.max ≤ rampDuty p n ↔ rampPhase p n = rampPeak p := by
  rw [← rampDuty_eq_rampPeak_iff hp]
  constructor
  · intro hmax
    exact Nat.le_antisymm (rampDuty_le_rampPeak p n) (rampPeak_le_of_dvd hp (threshold_dvd_rampDuty h) hmax)
  · intro hpeak
    exact hpeak ▸ max_le_rampPeak hp

/-- Both extremes of the duty fall on the threshold. -/
theorem threshold_dvd_of_extreme {n : Nat} (h : rampPhase p n = 0 ∨ rampPhase p n = rampPeak p) :
    p.threshold ∣ n := by
  rw [← threshold_dvd_rampPhase_iff]
  rcases h with h | h
  · exact h ▸ Nat.dvd_zero _
  · exact h ▸ threshold_dvd_rampPeak p

/-! ## One more event -/

/-- R30 (I1, P2) for every pair: the next duty is one step of the direction away. -/
theorem rampDuty_add_one (hp : p.wf = true) (n : Nat) :
    (rampDuty p (n + 1) : Int) = rampDuty p n + dirval (rampDir p n) := by
  have hlt := rampPhase_lt hp n
  rcases Nat.lt_or_ge (rampPhase p n) (rampPeak p) with hrising | hfalling
  · have hdir : dirval (rampDir p n) = 1 := by simp [rampDir, hrising, dirval]
    rw [hdir, rampDuty, rampDuty, rampPhase_add_one hp]
    split_ifs <;> omega
  · have hdir : dirval (rampDir p n) = -1 := by simp [rampDir, Nat.not_lt.2 hfalling, dirval]
    rw [hdir, rampDuty, rampDuty, rampPhase_add_one hp]
    split_ifs <;> omega

theorem rampCnt_add_one (hp : p.wf = true) (n : Nat) :
    rampCnt p (n + 1) = if rampCnt p n + 1 = p.threshold then 0 else rampCnt p n + 1 :=
  add_one_mod_eq_ite (threshold_pos hp) n

theorem rampCnt_lt (hp : p.wf = true) (n : Nat) : rampCnt p n < p.threshold :=
  Nat.mod_lt n (threshold_pos hp)

theorem rampCnt_add_one_eq_threshold_iff (hp : p.wf = true) (n : Nat) :
    rampCnt p n + 1 = p.threshold ↔ p.threshold ∣ n + 1 :=
  mod_add_one_eq_iff_dvd (threshold_pos hp) n

/-- Away from the extremes the direction stays. -/
theorem rampDir_add_one_of_ne (hp : p.wf = true) {n : Nat} (hzero : rampPhase p (n + 1) ≠ 0)
    (hpeak : rampPhase p (n + 1) ≠ rampPeak p) : rampDir p (n + 1) = rampDir p n := by
  have hnext := rampPhase_add_one hp n
  have hside : rampPhase p (n + 1) < rampPeak p ↔ rampPhase p n < rampPeak p := by
    split_ifs at hnext <;> omega
  simp only [rampDir, hside]

/-- The boundary check of R63 and R64, made only at the threshold, computes the closed form's direction. -/
theorem rampDir_add_one (hp : p.wf = true) (n : Nat) :
    rampDir p (n + 1) =
      if rampCnt p n + 1 = p.threshold then
        if p.max ≤ rampDuty p (n + 1) then 1#1 else if rampDuty p (n + 1) = 0 then 0#1 else rampDir p n
      else rampDir p n := by
  simp only [rampCnt_add_one_eq_threshold_iff hp, rampDuty_eq_zero_iff hp]
  by_cases hdvd : p.threshold ∣ n + 1
  · simp only [if_pos hdvd, max_le_rampDuty_iff hp hdvd]
    split_ifs with hpeak hzero
    · simp [rampDir, hpeak]
    · simp [rampDir, hzero, rampPeak_pos hp]
    · exact rampDir_add_one_of_ne hp hzero hpeak
  · rw [if_neg hdvd]
    exact rampDir_add_one_of_ne hp (fun h => hdvd (threshold_dvd_of_extreme (.inl h)))
      (fun h => hdvd (threshold_dvd_of_extreme (.inr h)))

/-- DUTY_RANGE is raised by the events whose duty is above `MAX`, of which event `MAX + 1` is the first (R31). -/
theorem rampRangeFault_add_one (hp : p.wf = true) (n : Nat) :
    rampRangeFault p (n + 1) = (rampRangeFault p n || decide (p.max < rampDuty p (n + 1))) := by
  by_cases hdvd : p.threshold ∣ p.max
  · have hpeak := (rampPeak_eq_max_iff hp).2 hdvd
    have hle : ¬ p.max < rampDuty p (n + 1) := Nat.not_lt.2 (hpeak ▸ rampDuty_le_rampPeak p (n + 1))
    simp [rampRangeFault, hdvd, hle]
  · have hself := rampDuty_le_self p (n + 1)
    have hfirst : n = p.max → rampDuty p (n + 1) = n + 1 := fun h =>
      rampDuty_of_le hp (by have := max_lt_rampPeak hp hdvd; omega)
    rw [Bool.eq_iff_iff]
    simp only [rampRangeFault, hdvd, not_false_eq_true, decide_true, Bool.true_and, Bool.or_eq_true,
      decide_eq_true_eq]
    omega

/-! ## The closed form at 0 events, and its period -/

theorem rampDuty_zero (p : Params) : rampDuty p 0 = 0 := by simp [rampDuty, rampPhase]

theorem rampDir_zero (hp : p.wf = true) : rampDir p 0 = 0#1 := by simp [rampDir, rampPhase, rampPeak_pos hp]

theorem rampDuty_add_period (p : Params) (n : Nat) : rampDuty p (n + 2 * rampPeak p) = rampDuty p n := by
  simp [rampDuty, rampPhase_add_period]

theorem rampDir_add_period (p : Params) (n : Nat) : rampDir p (n + 2 * rampPeak p) = rampDir p n := by
  simp [rampDir, rampPhase_add_period]

theorem rampCnt_add_period (p : Params) (n : Nat) : rampCnt p (n + 2 * rampPeak p) = rampCnt p n := by
  obtain ⟨q, hq⟩ := threshold_dvd_period p
  simp [rampCnt, hq]

theorem rampRangeFault_of_dvd (h : p.threshold ∣ p.max) (n : Nat) : rampRangeFault p n = false := by
  simp [rampRangeFault, h]

/-- For a matched pair the counter is 0 exactly where the duty is at an extreme (R30, I3 and P3). -/
theorem rampCnt_eq_zero_iff_of_matched (hp : p.wf = true) (hm : p.max = p.threshold) (n : Nat) :
    rampCnt p n = 0 ↔ rampDuty p n = 0 ∨ rampDuty p n = p.max := by
  have hpeak := rampPeak_of_matched hp hm
  rw [← hpeak, rampDuty_eq_zero_iff hp, rampDuty_eq_rampPeak_iff hp, rampCnt, ← Nat.dvd_iff_mod_eq_zero]
  constructor
  · intro hdvd
    by_cases hmax : p.max ≤ rampDuty p n
    · exact .inr ((max_le_rampDuty_iff hp hdvd).1 hmax)
    · have hzero := Nat.eq_zero_of_dvd_of_lt (threshold_dvd_rampDuty hdvd) (by omega)
      exact .inl ((rampDuty_eq_zero_iff hp n).1 hzero)
  · exact threshold_dvd_of_extreme

end Peak

end Sys2Proof.Machine

/-! The ramp invariant (spec 10_state.md R28 to R31, 40_event.md R68, R69): RESET puts the block at the foot of its
ramp, an enabled TICK takes it one event on, and no other operation moves it. -/

namespace Sys2Proof.Machine

variable {s t : State} {n : Nat}

theorem SameRamp.onRamp (hsame : SameRamp s t) (h : OnRamp s n) : OnRamp t n where
  duty := by rw [hsame.duty, hsame.cfg, h.duty]
  cnt := by rw [hsame.cnt, hsame.cfg, h.cnt]
  dir := by rw [hsame.dir, hsame.cfg, h.dir]
  comp := by rw [hsame.comp, hsame.cfg, h.comp]
  range := by rw [hsame.range, hsame.cfg, h.range]
  mismatch := by rw [hsame.mismatch, hsame.cfg, h.mismatch]

/-! ## RESET -/

theorem resetWrites_onRamp (hwf : s.cfg.wf = true) : OnRamp (resetWrites s) 0 where
  duty := by simp [rampDuty_zero]
  cnt := by simp [rampCnt]
  dir := by simp [rampDir_zero hwf]
  comp := by simp [rampComp, rampDir_zero hwf]
  range := by simp [flag_resetWrites, rampRangeFault]
  mismatch := by by_cases h : s.cfg.max = s.cfg.threshold <;> simp [flag_resetWrites, Config.Params.matched, h]

/-- The reset state is what RESET leaves of the power-on state. -/
theorem resetOf_eq_resetWrites (p : Config.Params) :
    State.resetOf p = resetWrites (quiet (State.powerOn p)) :=
  (resetWrites_eq (s := State.powerOn p)).symm

theorem resetOf_onRamp {p : Config.Params} (hp : p.wf = true) : OnRamp (State.resetOf p) 0 := by
  rw [resetOf_eq_resetWrites]
  exact resetWrites_onRamp hp

/-- Settles O43: RESET leaves every pair at 0 events. -/
theorem resetIsOnTheRamp : Obligations.ResetIsOnTheRamp := by
  have hramp {p : Config.Params} (hp : p.wf = true) : RampInv (State.resetOf p) :=
    ⟨hp, rfl, 0, resetOf_onRamp hp⟩
  exact ⟨fun p hp => ⟨hramp hp, resetOf_onRamp hp⟩, hramp (by decide)⟩

/-! ## An enabled TICK -/

/-- On the ramp the event's `d` is the closed form's next duty. -/
theorem OnRamp.nextDuty_eq (h : OnRamp s n) (hwf : s.cfg.wf = true) : nextDuty s = rampDuty s.cfg (n + 1) := by
  rw [rampDuty_add_one hwf, nextDuty, h.duty, h.dir]

theorem OnRamp.nextCount_eq (h : OnRamp s n) : nextCount s = rampCnt s.cfg n + 1 := by
  rw [nextCount, h.cnt]

/-- R68: the new duty fits its byte. -/
theorem OnRamp.toNat_nextDuty (h : OnRamp s n) (hwf : s.cfg.wf = true) :
    (BitVec.ofInt 8 (nextDuty s)).toNat = rampDuty s.cfg (n + 1) := by
  have hbyte := rampDuty_le_255 hwf (n + 1)
  rw [h.nextDuty_eq hwf, BitVec.ofInt_natCast, BitVec.toNat_ofNat]
  exact Nat.mod_eq_of_lt (by omega)

theorem OnRamp.toNat_nextCount (h : OnRamp s n) (hwf : s.cfg.wf = true) :
    (if nextCount s = s.cfg.threshold then 0x00#8 else BitVec.ofNat 8 (nextCount s)).toNat =
      rampCnt s.cfg (n + 1) := by
  have hlt := rampCnt_lt hwf n
  obtain ⟨hmax, -, hbyte⟩ := (params_wf_iff s.cfg).1 hwf
  rw [h.nextCount_eq, rampCnt_add_one hwf]
  split_ifs
  · rfl
  · rw [BitVec.toNat_ofNat]
    exact Nat.mod_eq_of_lt (by omega)

theorem OnRamp.nextDir_eq (h : OnRamp s n) (hwf : s.cfg.wf = true) :
    (if nextCount s = s.cfg.threshold then
        if nextDuty s ≥ s.cfg.max then 1#1 else if nextDuty s ≤ 0 then 0#1 else s.dir
      else s.dir) = rampDir s.cfg (n + 1) := by
  have hmax : nextDuty s ≥ s.cfg.max ↔ s.cfg.max ≤ rampDuty s.cfg (n + 1) := by
    rw [h.nextDuty_eq hwf]
    omega
  have hzero : nextDuty s ≤ 0 ↔ rampDuty s.cfg (n + 1) = 0 := by
    rw [h.nextDuty_eq hwf]
    omega
  simp only [rampDir_add_one hwf, h.nextCount_eq, hmax, hzero, h.dir]

/-- The duty is never below 0, so DUTY_RANGE is raised by a duty above `MAX`. -/
theorem OnRamp.outOfRange_eq (h : OnRamp s n) (hwf : s.cfg.wf = true) :
    outOfRange s.cfg (nextDuty s) = decide (s.cfg.max < rampDuty s.cfg (n + 1)) := by
  rw [outOfRange, h.nextDuty_eq hwf, ← Bool.decide_or]
  exact decide_eq_decide.2 (by omega)

/-- The closed form counts the event. -/
theorem OnRamp.after_event (h : OnRamp s n) (hwf : s.cfg.wf = true) (hen : s.en = 1#1) :
    OnRamp (tickEvent s) (n + 1) := by
  have hevent := tickEvent_of_enabled hen
  have hdir : (tickEvent s).dir = rampDir s.cfg (n + 1) := by
    rw [hevent, periodicEvent_eq]
    exact h.nextDir_eq hwf
  have hmirror : CompanionMirror (tickEvent s) :=
    tickEvent_companionMirror (by rw [CompanionMirror, h.comp, h.dir, rampComp])
  constructor
  case duty =>
    rw [tickEvent_cfg, hevent, periodicEvent_eq]
    exact h.toNat_nextDuty hwf
  case cnt =>
    rw [tickEvent_cfg, hevent, periodicEvent_eq]
    exact h.toNat_nextCount hwf
  case dir => rw [tickEvent_cfg, hdir]
  case comp => rw [tickEvent_cfg, hmirror, hdir, rampComp]
  case range =>
    rw [tickEvent_cfg, flag_tickEvent, rampRangeFault_add_one hwf, h.range, h.outOfRange_eq hwf]
    simp [hen]
  case mismatch =>
    rw [tickEvent_cfg, flag_tickEvent, h.mismatch]
    simp

/-! ## Every operation -/

/-- The count of enabled TICKs since the last RESET, after one more operation. -/
def eventsAfter (i : Instr) (s : State) (n : Nat) : Nat :=
  if i = .reset then 0 else if i = .tick ∧ s.en = 1#1 then n + 1 else n

/-- On the word of an operation the model's count is `eventsAfter`. -/
theorem countEvent_of_decode {w : OpWord} {i : Instr} (h : decode w = .ok i) :
    countEvent w s n = eventsAfter i s n := by
  rcases en_eq_zero_or_one s.en with hen | hen <;> cases i <;> simp [countEvent, eventsAfter, h, hen]

theorem OnRamp.after_tickEvent (h : OnRamp s n) (hwf : s.cfg.wf = true) :
    OnRamp (tickEvent s) (eventsAfter .tick s n) := by
  rcases en_eq_zero_or_one s.en with hen | hen
  · have hcount : eventsAfter .tick s n = n := by simp [eventsAfter, hen]
    rw [tickEvent_of_masked hen, hcount]
    exact h
  · have hcount : eventsAfter .tick s n = n + 1 := by simp [eventsAfter, hen]
    rw [hcount]
    exact h.after_event hwf hen

/-- Every operation performed on the ramp leads to the place on the ramp that its count names. -/
theorem OnRamp.after_exec {i : Instr} (h : OnRamp s n) (hexec : exec i s = .next t) : OnRamp t (eventsAfter i s n) := by
  obtain ⟨hwf, -, rfl⟩ := exec_next_iff.1 hexec
  have hquiet : OnRamp (quiet s) n := sameRamp_quiet.onRamp h
  by_cases htick : i = .tick
  · subst htick
    exact hquiet.after_tickEvent hwf
  by_cases hreset : i = .reset
  · subst hreset
    exact resetWrites_onRamp hwf
  · have hcount : eventsAfter i s n = n := by simp [eventsAfter, htick, hreset]
    rw [hcount]
    exact (effect_sameRamp htick hreset).onRamp hquiet

theorem SameRamp.rampInv (hsame : SameRamp s t) : RampInv s → RampInv t := by
  rintro ⟨hwf, hmark, n, hramp⟩
  exact ⟨by rw [hsame.cfg, hwf], by rw [hsame.wasReset, hmark], n, hsame.onRamp hramp⟩

theorem tickEvent_rampInv : RampInv s → RampInv (tickEvent s) := by
  rintro ⟨hwf, hmark, n, hramp⟩
  exact ⟨by rw [tickEvent_cfg, hwf], by rw [tickEvent_wasReset, hmark], _, hramp.after_tickEvent hwf⟩

theorem resetWrites_rampInv (hwf : s.cfg.wf = true) : RampInv (resetWrites s) :=
  ⟨hwf, rfl, 0, resetWrites_onRamp hwf⟩

/-- Settles O42: TICK goes on along the ramp, RESET goes back to its foot, and no other operation writes a register of
the ramp. -/
theorem stepKeepsRampInvariant : Obligations.StepKeepsRampInvariant := fun _ _ =>
  step_keeps SameRamp.rampInv tickEvent_rampInv resetWrites_rampInv

/-! ## What an enabled TICK does on the ramp -/

/-- An enabled TICK on the ramp: the event counted, the parameters kept, and the direction by the boundary check. -/
theorem exec_tick_onRamp (h : OnRamp s n) (hen : s.en = 1#1) (hexec : exec .tick s = .next t) :
    s.cfg.wf = true ∧ t.cfg = s.cfg ∧ OnRamp t (n + 1) := by
  obtain ⟨hcfg, -, -⟩ := parametersAndInputUntouched .tick s t hexec
  have hramp := h.after_exec hexec
  rw [show eventsAfter .tick s n = n + 1 by simp [eventsAfter, hen]] at hramp
  exact ⟨(exec_next_iff.1 hexec).1, hcfg, hramp⟩

/-- Settles O47: the closed form's next duty is one step of the direction away. -/
theorem enabledTickMovesDutyOneStep : Obligations.EnabledTickMovesDutyOneStep := by
  rintro s t ⟨-, -, n, hramp⟩ hen hexec
  obtain ⟨hwf, hcfg, hnext⟩ := exec_tick_onRamp hramp hen hexec
  calc (t.duty.toNat : Int)
    _ = rampDuty s.cfg (n + 1) := by rw [hnext.duty, hcfg]
    _ = rampDuty s.cfg n + dirval (rampDir s.cfg n) := rampDuty_add_one hwf n
    _ = s.duty.toNat + dirval s.dir := by rw [hramp.duty, hramp.dir]

/-- A boundary check that meets no duty above `MAX` flips the direction exactly where it runs into an extreme. -/
theorem boundary_flips_iff (dir : Bit) {d max : Nat} (hmax : 0 < max) (hd : d ≤ max) :
    (if max ≤ d then 1#1 else if d = 0 then 0#1 else dir) ≠ dir ↔
      (d = max ∧ dir = 0#1) ∨ (d = 0 ∧ dir = 1#1) := by
  rcases en_eq_zero_or_one dir with rfl | rfl
  · have hiff : max ≤ d ↔ d = max := by omega
    simp [hiff]
  · have hpos : max ≠ 0 := by omega
    by_cases hzero : d = 0 <;> simp [hzero, hpos]

/-- Settles O46: on the matched ramp the peak is `MAX`, so the boundary check's comparisons are equalities, and the
counter wraps exactly at the two extremes. -/
theorem matchedFlipsExactlyAtExtremes : Obligations.MatchedFlipsExactlyAtExtremes := by
  rintro s t ⟨-, -, n, hramp⟩ hmatched hen hexec
  obtain ⟨hwf, hcfg, hnext⟩ := exec_tick_onRamp hramp hen hexec
  have hpeak := rampPeak_of_matched hwf hmatched
  have hle : rampDuty s.cfg (n + 1) ≤ s.cfg.max := hpeak ▸ rampDuty_le_rampPeak s.cfg (n + 1)
  have hduty : t.duty.toNat = rampDuty s.cfg (n + 1) := by rw [hnext.duty, hcfg]
  have hnextDuty := hramp.nextDuty_eq hwf
  refine ⟨?flips, ?wraps, by omega, by omega⟩
  case flips =>
    have hdir : t.dir = rampDir s.cfg (n + 1) := by rw [hnext.dir, hcfg]
    rw [hdir, rampDir_add_one hwf, ← hramp.dir, ← hramp.nextCount_eq, hduty]
    by_cases hthreshold : nextCount s = s.cfg.threshold
    · simpa [hthreshold] using boundary_flips_iff s.dir (max_pos hwf) hle
    · simp [hthreshold]
  case wraps =>
    have hcnt : t.cnt.toNat = rampCnt s.cfg (n + 1) := by rw [hnext.cnt, hcfg]
    rw [hduty, ← rampCnt_eq_zero_iff_of_matched hwf hmatched, ← hcnt]
    exact BitVec.toNat_eq

end Sys2Proof.Machine

/-! Runs from RESET (spec 10_state.md R29 to R31): the companion mirror and the closed forms at the end of every run,
and the cycle of a matched pair. -/

namespace Sys2Proof.Machine

variable {s t : State} {n : Nat}

/-! ## The induction over a run -/

theorem countEvents_cons {w : OpWord} {ws : List OpWord} (h : execWord w s = .next t) :
    countEvents (w :: ws) s n = countEvents ws t (countEvent w s n) := by
  simp [countEvents, h]

/-- What every operation keeps, as it counts its events, holds at the end of a run. -/
theorem runWords_keeps {I : State → Nat → Prop}
    (hexec : ∀ {i : Instr} {s t : State} {n : Nat}, I s n → exec i s = .next t → I t (eventsAfter i s n))
    (ws : List OpWord) {s : State} {n : Nat} (hs : I s n) (hrun : runWords ws s = .next t) :
    I t (countEvents ws s n) := by
  induction ws generalizing s n with
  | nil =>
    cases hrun
    exact hs
  | cons w ws ih =>
    obtain ⟨u, hword, hrest⟩ := runWords_cons_next_iff.1 hrun
    obtain ⟨i, hdecode, hi⟩ := execWord_next_iff.1 hword
    rw [countEvents_cons hword]
    refine ih ?_ hrest
    rw [countEvent_of_decode hdecode]
    exact hexec hs hi

/-- What RESET establishes and every operation keeps holds in every state reachable from RESET. -/
theorem runFromReset_keeps {I : State → Nat → Prop}
    (hreset : ∀ {s : State}, s.cfg.wf = true → I (resetWrites s) 0)
    (hexec : ∀ {i : Instr} {s t : State} {n : Nat}, I s n → exec i s = .next t → I t (eventsAfter i s n))
    {ws : List OpWord} (hrun : RunFromReset ws s t) : I t (countEvents ws s 0) := by
  obtain ⟨hstarts, hwords⟩ := hrun
  cases ws with
  | nil => exact absurd hstarts Bool.false_ne_true
  | cons w ws =>
    have hdecode : decode w = .ok .reset := of_decide_eq_true hstarts
    obtain ⟨u, hword, hrest⟩ := runWords_cons_next_iff.1 hwords
    have hfirst := hword
    rw [execWord_of_decode hdecode] at hfirst
    obtain ⟨hwf, -, rfl⟩ := exec_next_iff.1 hfirst
    rw [countEvents_cons hword, countEvent_of_decode hdecode]
    exact runWords_keeps hexec ws (hreset hwf) hrest

/-- Settles O40: RESET makes the mirror and every operation keeps it. -/
theorem companionMirrorsDirection : Obligations.CompanionMirrorsDirection := fun _ _ _ =>
  runFromReset_keeps (I := fun s _ => CompanionMirror s) (fun _ => resetWrites_companionMirror) exec_companionMirror

/-- Every state reachable from RESET stands on the ramp of a well-formed pair where the count of its events says. -/
theorem runFromReset_onRamp {ws : List OpWord} (hrun : RunFromReset ws s t) :
    t.cfg.wf = true ∧ OnRamp t (countEvents ws s 0) := by
  refine runFromReset_keeps (I := fun s n => s.cfg.wf = true ∧ OnRamp s n) ?reset ?exec hrun
  case reset =>
    intro s hwf
    exact ⟨hwf, resetWrites_onRamp hwf⟩
  case exec =>
    rintro i s t n ⟨hwf, hramp⟩ hexec
    obtain ⟨hcfg, -, -⟩ := parametersAndInputUntouched i s t hexec
    exact ⟨by rw [hcfg, hwf], hramp.after_exec hexec⟩

/-! ## The closed forms -/

theorem rampRangeFault_iff (p : Config.Params) (n : Nat) :
    rampRangeFault p n = true ↔ ¬ p.threshold ∣ p.max ∧ p.max + 1 ≤ n := by
  simp [rampRangeFault]

/-- Settles O44: the run ends on the ramp, whose peak, first value above `MAX` and period are those of R31. -/
theorem closedFormForEveryPair : Obligations.ClosedFormForEveryPair := by
  constructor
  · intro ws s t hrun
    obtain ⟨-, hramp⟩ := runFromReset_onRamp hrun
    refine ⟨hramp.duty, hramp.cnt, hramp.dir, companionMirrorsDirection ws s t hrun, ?_⟩
    rw [hramp.range, rampRangeFault_iff]
  · intro p hp
    obtain ⟨-, -, hbyte⟩ := (params_wf_iff p).1 hp
    refine ⟨rampDuty_le_rampPeak p, rampPeak_le p, hbyte, rampPeak_eq_max_iff hp, fun hdvd => ⟨?below, ?first⟩,
      fun n => ⟨rampDuty_add_period p n, rampCnt_add_period p n, rampDir_add_period p n⟩⟩
    case below =>
      intro n hn
      exact (rampDuty_le_self p n).trans hn
    case first => exact rampDuty_of_le hp (max_lt_rampPeak hp hdvd)

/-- Settles O45: the peak of a matched pair is `MAX`, which makes R31's functions those of R30. -/
theorem closedFormMatched : Obligations.ClosedFormMatched := by
  rintro ws s t m n k hrun hmax hthreshold rfl rfl
  obtain ⟨hwf, hramp⟩ := runFromReset_onRamp hrun
  have hpeak : rampPeak t.cfg = m := hmax ▸ rampPeak_of_matched hwf (hmax.trans hthreshold.symm)
  have hdvd : t.cfg.threshold ∣ t.cfg.max := by rw [hmax, hthreshold]
  refine ⟨?duty, ?cnt, ?dir, companionMirrorsDirection ws s t hrun, ?range⟩
  case duty => rw [hramp.duty, rampDuty, rampPhase, hpeak]
  case cnt => rw [hramp.cnt, rampCnt, hthreshold]
  case dir => rw [hramp.dir, rampDir, rampPhase, hpeak]
  case range => rw [hramp.range, rampRangeFault_of_dvd hdvd]

/-! ## TICKs in a row -/

/-- TICKs in a row with events enabled count one event each, and change no flag but DUTY_RANGE. -/
theorem ticks_onRamp (hwf : s.cfg.wf = true) (hen : s.en = 1#1) (h : OnRamp s n) (k : Nat) :
    OnRamp (ticks k s) (n + k) := by
  induction k generalizing s n with
  | zero => exact h
  | succ k ih =>
    have hnext : OnRamp (tickEvent (quiet s)) (n + 1) := (sameRamp_quiet.onRamp h).after_event hwf hen
    rw [show n + (k + 1) = n + 1 + k by omega]
    exact ih (by simpa using hwf) (by simpa using hen) hnext

/-- What TICKs in a row leave unchanged: every field that no TICK writes. -/
theorem ticks_frame (k : Nat) :
    (ticks k s).cfg = s.cfg ∧ (ticks k s).en = s.en ∧ (ticks k s).wasReset = s.wasReset ∧
      (ticks k s).input = s.input ∧ (ticks k s).flag .hostAccess = s.flag .hostAccess := by
  induction k generalizing s with
  | zero => exact ⟨rfl, rfl, rfl, rfl, rfl⟩
  | succ k ih => simpa [ticks, flag_tickEvent] using ih (s := tickEvent (quiet s))

theorem ticks_rdata_of_none (k : Nat) (h : s.rdata = none) : (ticks k s).rdata = none := by
  induction k generalizing s with
  | zero => exact h
  | succ k ih => exact ih (by simp)

theorem ticks_rdata {k : Nat} (hk : 0 < k) : (ticks k s).rdata = none := by
  cases k with
  | zero => exact absurd hk (Nat.lt_irrefl 0)
  | succ k => exact ticks_rdata_of_none k (by simp)

/-- A matched pair's registers of the ramp come back after one period. -/
theorem sameRamp_of_period (hcfg : t.cfg = s.cfg) (hmark : t.wasReset = s.wasReset)
    (hdvd : s.cfg.threshold ∣ s.cfg.max) (hs : OnRamp s n) (ht : OnRamp t (n + 2 * rampPeak s.cfg)) :
    SameRamp s t where
  cfg := hcfg
  wasReset := hmark
  duty := BitVec.eq_of_toNat_eq (by rw [ht.duty, hs.duty, hcfg, rampDuty_add_period])
  cnt := BitVec.eq_of_toNat_eq (by rw [ht.cnt, hs.cnt, hcfg, rampCnt_add_period])
  dir := by rw [ht.dir, hs.dir, hcfg, rampDir_add_period]
  comp := by rw [ht.comp, hs.comp, hcfg, rampComp, rampDir_add_period, rampComp]
  range := by rw [ht.range, hs.range, hcfg, rampRangeFault_of_dvd hdvd, rampRangeFault_of_dvd hdvd]
  mismatch := by rw [ht.mismatch, hs.mismatch, hcfg]

/-- States that agree on the ramp, `en`, HOST_ACCESS and the waiting words differ in `rdata` alone. -/
theorem SameRamp.eq_withRdata (h : SameRamp s t) (hen : t.en = s.en)
    (hflag : t.flag .hostAccess = s.flag .hostAccess) (hinput : t.input = s.input) :
    t = { s with rdata := t.rdata } := by
  have herr : t.err = s.err := err_eq_of_flags fun k => by
    cases k
    · exact h.mismatch
    · exact h.range
    · exact hflag
  obtain ⟨hcfg, hmark, hduty, hcnt, hdir, hcomp, -, -⟩ := h
  cases s
  cases t
  simp_all

/-- Settles O51: the period of a matched pair is `2 * MAX`, and TICK writes nothing but the registers of the ramp. -/
theorem matchedCycleCloses : Obligations.MatchedCycleCloses := by
  rintro s ⟨hwf, -, n, hramp⟩ hmatched hen
  have hmax := max_pos hwf
  obtain ⟨hcfg, hen', hmark, hinput, hflag⟩ := ticks_frame (s := s) (2 * s.cfg.max)
  have hend := ticks_onRamp hwf hen hramp (2 * s.cfg.max)
  have hsame : SameRamp s (ticks (2 * s.cfg.max) s) :=
    sameRamp_of_period hcfg hmark (hmatched ▸ Nat.dvd_refl _) hramp
      (by rw [rampPeak_of_matched hwf hmatched]; exact hend)
  calc ticks (2 * s.cfg.max) s
    _ = { s with rdata := (ticks (2 * s.cfg.max) s).rdata } := hsame.eq_withRdata hen' hflag hinput
    _ = { s with rdata := none } := by rw [ticks_rdata (by omega)]

end Sys2Proof.Machine

/-! The host window and the order of operations (spec 20_memory.md R33 to R40): where the window lies, its two access
primitives and what repeating them does, and steps over presented words. -/

namespace Sys2Proof.Machine

variable {s t : State}

/-! ## The window -/

theorem windowOffset_hostBase_add {k : Nat} (hk : k < 8) :
    windowOffset (Config.hostBase + k) = some (BitVec.ofNat 3 k) := by
  simp [windowOffset, hk]

theorem windowOffset_eq_none_iff (addr : Nat) :
    windowOffset addr = none ↔ addr < Config.hostBase ∨ Config.hostBase + 8 ≤ addr := by
  simp only [windowOffset, ite_eq_right_iff, reduceCtorEq, imp_false]
  omega

/-- Settles O36: an offset is a number below 8, and the window is the eight addresses from `HOST_BASE` on. -/
theorem windowHasEightOffsets : Obligations.WindowHasEightOffsets := by
  refine ⟨fun off => ?_, fun addr => (windowOffset_eq_none_iff addr).2⟩
  rw [windowOffset_hostBase_add off.isLt, BitVec.ofNat_toNat, BitVec.setWidth_eq]

/-! ## The access primitives -/

@[simp] theorem hostRead_quiet (off : Offset) : hostRead off (quiet s) = hostRead off s := rfl

theorem execWord_read (off : Offset) (h : Operable s) :
    execWord (packWord 0b10#2 off 0x00#8) s = .next (returnByte (hostRead off s) (quiet s)) := by
  rw [execWord_of_decode (decode_packWord_read off), exec_of_operable _ h, effect_readInstr, hostRead_quiet]

/-- Settles O20: a READ word decodes to the operation that performs HostRead, a WRITE word to the one that performs
HostWrite. -/
theorem hostPrimitivesAreOneOperation : Obligations.HostPrimitivesAreOneOperation :=
  fun off data _ hoperable => ⟨execWord_read off hoperable, execWord_write off data hoperable⟩

/-! ## Repeated accesses -/

/-- HostWrite has three outcomes (R38): only the bytes 1 and 0 at CTRL are legal. -/
theorem hostWrite_eq (off : Offset) (data : Byte) :
    hostWrite off data s =
      if off = 0#3 ∧ data = 0x01#8 then setEnable s
      else if off = 0#3 ∧ data = 0x00#8 then s
      else illegalWrite s := by
  by_cases hctrl : off = 0#3 <;> simp [hostWrite, hctrl]

/-- HOST_ACCESS is sticky, so raising it again changes nothing. -/
theorem illegalWrite_illegalWrite : illegalWrite (illegalWrite s) = illegalWrite s := by
  simp [illegalWrite, raise, BitVec.or_assoc]

/-- A READ writes nothing but `host_rdata`. -/
theorem effect_of_read {i : Instr} (hi : i.kind = .read) : ∃ r, effect i s = { s with rdata := r } := by
  cases i with
  | rdCtrl | rdStatus | rdDuty | rdCnt | rdUnmapped => exact ⟨_, rfl⟩
  | _ => nomatch hi

/-- A host access repeated at once leaves what it left the first time: a READ reads no field that it writes, and a
WRITE sets a bit that is set already. -/
theorem effect_effect_of_host {i : Instr} (hi : i.kind = .read ∨ i.kind = .write) :
    effect i (quiet (effect i (quiet s))) = effect i (quiet s) := by
  cases i with
  | tick | reset => simp [Instr.kind] at hi
  | wrCtrlRsv | wrStatus | wrDuty | wrCnt | wrUnmapped => exact illegalWrite_illegalWrite (s := quiet s)
  | enable | wrCtrlZero | rdCtrl | rdStatus | rdDuty | rdCnt | rdUnmapped => rfl

/-- A host access that was performed can be repeated, and the repetition changes nothing. -/
theorem exec_again_of_host {i : Instr} (hi : i.kind = .read ∨ i.kind = .write) (hexec : exec i s = .next t) :
    exec i t = .next t := by
  obtain ⟨hcfg, -, hreset⟩ := parametersAndInputUntouched i s t hexec
  obtain ⟨hwf, -, rfl⟩ := exec_next_iff.1 hexec
  exact exec_next_iff.2 ⟨hcfg ▸ hwf, .inr hreset, (effect_effect_of_host hi).symm⟩

/-- Settles O24: HostWrite by its three outcomes, and a repeated access by what it wrote the first time. -/
theorem hostAccessesIdempotent : Obligations.HostAccessesIdempotent := by
  refine ⟨?outcomes, ?read, ?write⟩
  case outcomes => exact fun off data s => hostWrite_eq off data
  case read =>
    intro i s t hi hexec
    refine ⟨?_, exec_again_of_host (.inl hi) hexec⟩
    obtain ⟨-, -, rfl⟩ := exec_next_iff.1 hexec
    obtain ⟨r, hr⟩ := effect_of_read (s := quiet s) hi
    rw [hr]
    rfl
  case write => exact fun i s t hi hexec => exec_again_of_host (.inr hi) hexec

/-! ## Operations do not read the waiting words -/

theorem andThen_assoc (r : Result) (f g : State → Result) :
    andThen (andThen r f) g = andThen r fun u => andThen (f u) g := by
  cases r <;> rfl

/-- The state with the words `ws` waiting, in place of any that waited before. -/
def withInput (ws : List OpWord) (s : State) : State := { s with input := ws }

@[simp] theorem withInput_cfg (ws : List OpWord) : (withInput ws s).cfg = s.cfg := rfl

@[simp] theorem withInput_wasReset (ws : List OpWord) : (withInput ws s).wasReset = s.wasReset := rfl

@[simp] theorem quiet_withInput (ws : List OpWord) : quiet (withInput ws s) = withInput ws (quiet s) := rfl

theorem tickEvent_withInput (ws : List OpWord) : tickEvent (withInput ws s) = withInput ws (tickEvent s) := by
  rw [tickEvent_eq, tickEvent_eq]
  rfl

theorem effect_withInput (i : Instr) (ws : List OpWord) : effect i (withInput ws s) = withInput ws (effect i s) := by
  cases i with
  | tick => exact tickEvent_withInput ws
  | _ => rfl

theorem perform_withInput {f : State → State} (ws : List OpWord)
    (hf : ∀ u, f (withInput ws u) = withInput ws (f u)) :
    perform (withInput ws s) f = andThen (perform s f) fun t => .next (withInput ws t) := by
  unfold perform
  cases hwf : s.cfg.wf <;> cases hreset : s.wasReset <;> simp [andThen, hwf, hreset, hf]

theorem performAlways_withInput {f : State → State} (ws : List OpWord)
    (hf : ∀ u, f (withInput ws u) = withInput ws (f u)) :
    performAlways (withInput ws s) f = andThen (performAlways s f) fun t => .next (withInput ws t) := by
  unfold performAlways
  cases hwf : s.cfg.wf <;> simp [andThen, hwf, hf]

/-- An operation answers the same whatever words wait behind it, and hands them on (R40; log entry 2). -/
theorem exec_withInput (i : Instr) (ws : List OpWord) :
    exec i (withInput ws s) = andThen (exec i s) fun t => .next (withInput ws t) := by
  by_cases hi : i = .reset
  · subst hi
    exact performAlways_withInput ws fun _ => effect_withInput .reset ws
  · rw [exec_eq_perform hi, exec_eq_perform hi]
    exact perform_withInput ws fun _ => effect_withInput i ws

theorem execWord_withInput (w : OpWord) (ws : List OpWord) :
    execWord w (withInput ws s) = andThen (execWord w s) fun t => .next (withInput ws t) := by
  unfold execWord
  cases decode w with
  | ok i => exact exec_withInput i ws
  | error e => rfl

/-! ## Steps over presented words -/

/-- The run of the machine behind the host's interface, in the model's own types. -/
def runSteps (k : Nat) (s : State) : Result := Host.Core.run Sys2Proof.core k s

theorem runSteps_succ (k : Nat) (s : State) : runSteps (k + 1) s = andThen (step s) (runSteps k) := by
  simp only [runSteps, Host.Core.run]
  change _ = andThen (Sys2Proof.core.step s) (runSteps k)
  cases Sys2Proof.core.step s <;> rfl

theorem step_withInput_cons (w : OpWord) (ws : List OpWord) :
    step (withInput (w :: ws) s) = execWord w (withInput ws s) :=
  step_of_cons rfl

/-- Each step takes the oldest word off the queue and performs it, on a state that differs from that of the run of
words in nothing but the queue. -/
theorem runSteps_withInput (ws : List OpWord) (s : State) :
    runSteps ws.length (withInput ws s) = runWords ws (withInput [] s) := by
  induction ws generalizing s with
  | nil => rfl
  | cons w ws ih =>
    calc runSteps (ws.length + 1) (withInput (w :: ws) s)
      _ = andThen (execWord w (withInput ws s)) (runSteps ws.length) := by rw [runSteps_succ, step_withInput_cons]
      _ = andThen (execWord w s) fun u => runSteps ws.length (withInput ws u) := by
        rw [execWord_withInput, andThen_assoc]
        rfl
      _ = andThen (execWord w s) fun u => runWords ws (withInput [] u) := by simp only [ih]
      _ = andThen (execWord w (withInput [] s)) (runWords ws) := by
        rw [execWord_withInput, andThen_assoc]
        rfl
      _ = runWords (w :: ws) (withInput [] s) := rfl

/-- Settles O10: the words presented to a state in which none wait are its whole queue. -/
theorem stepsPerformPresentedWords : Obligations.StepsPerformPresentedWords :=
  fun ws s => runSteps_withInput ws s

end Sys2Proof.Machine

/-! The operation words (spec 30_encoding.md R45 to R54): which word spells which operation, the decoder, the encoder
and the match/mask table as maps of the three fields, and the words of a line and of BOOT. -/

namespace Sys2Proof.Machine

variable {s : State}

/-! ## The decoder on a word's fields -/

/-- All four values of field K are assigned, so every word has a kind (R46). -/
theorem exists_eq_packWord (w : OpWord) : ∃ (k : Kind) (a : Offset) (d : Byte), w = packWord k.code a d := by
  have hcode : ∀ b : BitVec 2,
      b = Kind.tick.code ∨ b = Kind.write.code ∨ b = Kind.read.code ∨ b = Kind.reset.code := by decide
  have hkind : ∃ k : Kind, fieldK w = k.code := by
    rcases hcode (fieldK w) with h | h | h | h <;> exact ⟨_, h⟩
  obtain ⟨k, hk⟩ := hkind
  exact ⟨k, fieldA w, fieldD w, by rw [← hk, packWord_fields]⟩

theorem decode_packWord_tick_code (a : Offset) (d : Byte) :
    decode (packWord Kind.tick.code a d) = if a = 0#3 ∧ d = 0#8 then .ok .tick else .error .invalidWord := by
  simp [decode, Kind.code]

theorem decode_packWord_write_code (a : Offset) (d : Byte) :
    decode (packWord Kind.write.code a d) = .ok (writeInstr a d) :=
  decode_packWord_write a d

theorem decode_packWord_read_code (a : Offset) (d : Byte) :
    decode (packWord Kind.read.code a d) = if d ≠ 0#8 then .error .invalidWord else .ok (readInstr a) := by
  simp [decode, Kind.code]

theorem decode_packWord_reset_code (a : Offset) (d : Byte) :
    decode (packWord Kind.reset.code a d) = if a = 0#3 ∧ d = 0#8 then .ok .reset else .error .invalidWord := by
  simp [decode, Kind.code]

/-! ## Which word spells which operation -/

/-- The word spells the operation: R49's four cases, each with the fields the case leaves free. -/
inductive Spells : OpWord → Instr → Prop where
  | tick : Spells (packWord Kind.tick.code 0#3 0#8) .tick
  | write (off : Offset) (data : Byte) : Spells (packWord Kind.write.code off data) (writeInstr off data)
  | read (off : Offset) : Spells (packWord Kind.read.code off 0#8) (readInstr off)
  | reset : Spells (packWord Kind.reset.code 0#3 0#8) .reset

theorem Spells.decode_eq {w : OpWord} {i : Instr} (h : Spells w i) : decode w = .ok i := by
  cases h with
  | tick => rw [decode_packWord_tick_code, if_pos ⟨rfl, rfl⟩]
  | write off data => exact decode_packWord_write off data
  | read off => exact decode_packWord_read off
  | reset => rw [decode_packWord_reset_code, if_pos ⟨rfl, rfl⟩]

theorem spells_of_decode {w : OpWord} {i : Instr} (h : decode w = .ok i) : Spells w i := by
  obtain ⟨k, a, d, rfl⟩ := exists_eq_packWord w
  cases k with
  | tick =>
    rw [decode_packWord_tick_code] at h
    split_ifs at h with hfields
    obtain ⟨rfl, rfl⟩ := hfields
    cases h
    exact .tick
  | write =>
    rw [decode_packWord_write_code] at h
    cases h
    exact .write a d
  | read =>
    rw [decode_packWord_read_code] at h
    split_ifs at h with hdata
    obtain rfl := not_not.1 hdata
    cases h
    exact .read a
  | reset =>
    rw [decode_packWord_reset_code] at h
    split_ifs at h with hfields
    obtain ⟨rfl, rfl⟩ := hfields
    cases h
    exact .reset

theorem encode_writeInstr (off : Offset) (data : Byte) :
    encode (writeInstr off data) = packWord Kind.write.code off data := by
  unfold writeInstr
  split_ifs <;> simp_all [encode]

theorem encode_readInstr (off : Offset) : encode (readInstr off) = packWord Kind.read.code off 0#8 := by
  unfold readInstr
  split_ifs <;> simp_all [encode]

theorem writeInstr_wf (off : Offset) (data : Byte) : (writeInstr off data).wf = true := by
  unfold writeInstr
  split_ifs with hctrl hone hzero hstatus hduty hcnt
  · rfl
  · rfl
  · exact (setsReservedCtrl_iff data).2 ⟨hone, hzero⟩
  · rfl
  · rfl
  · rfl
  · exact (unmappedOffset_iff off).2 ⟨hctrl, hstatus, hduty, hcnt⟩

theorem readInstr_wf (off : Offset) : (readInstr off).wf = true := by
  unfold readInstr
  split_ifs with hctrl hstatus hduty hcnt
  · rfl
  · rfl
  · rfl
  · rfl
  · exact (unmappedOffset_iff off).2 ⟨hctrl, hstatus, hduty, hcnt⟩

theorem Spells.wf {w : OpWord} {i : Instr} (h : Spells w i) : i.wf = true := by
  cases h with
  | tick | reset => rfl
  | write off data => exact writeInstr_wf off data
  | read off => exact readInstr_wf off

theorem Spells.encode_eq {w : OpWord} {i : Instr} (h : Spells w i) : encode i = w := by
  cases h with
  | tick | reset => rfl
  | write off data => exact encode_writeInstr off data
  | read off => exact encode_readInstr off

theorem writeInstr_of_reserved {data : Byte} (h : setsReservedCtrl data = true) :
    writeInstr 0#3 data = .wrCtrlRsv data := by
  obtain ⟨hone, hzero⟩ := (setsReservedCtrl_iff data).1 h
  simp [writeInstr, hone, hzero]

theorem writeInstr_of_unmapped {off : Offset} (h : unmappedOffset off = true) (data : Byte) :
    writeInstr off data = .wrUnmapped off data := by
  obtain ⟨hctrl, hstatus, hduty, hcnt⟩ := (unmappedOffset_iff off).1 h
  simp [writeInstr, hctrl, hstatus, hduty, hcnt]

theorem readInstr_of_unmapped {off : Offset} (h : unmappedOffset off = true) : readInstr off = .rdUnmapped off := by
  obtain ⟨hctrl, hstatus, hduty, hcnt⟩ := (unmappedOffset_iff off).1 h
  simp [readInstr, hctrl, hstatus, hduty, hcnt]

theorem spells_encode_writeInstr (off : Offset) (data : Byte) :
    Spells (encode (writeInstr off data)) (writeInstr off data) :=
  encode_writeInstr off data ▸ .write off data

theorem spells_encode_readInstr (off : Offset) : Spells (encode (readInstr off)) (readInstr off) :=
  encode_readInstr off ▸ .read off

/-- The word of a well-formed operation spells it. For the three operations with a condition on their operands the
condition rules out R49's earlier cases. -/
theorem spells_encode {i : Instr} (h : i.wf = true) : Spells (encode i) i := by
  cases i with
  | tick => exact .tick
  | reset => exact .reset
  | enable => exact .write 0#3 0x01#8
  | wrCtrlZero => exact .write 0#3 0x00#8
  | wrCtrlRsv data => exact writeInstr_of_reserved h ▸ spells_encode_writeInstr 0#3 data
  | wrStatus data => exact .write 1#3 data
  | wrDuty data => exact .write 2#3 data
  | wrCnt data => exact .write 3#3 data
  | wrUnmapped off data => exact writeInstr_of_unmapped h data ▸ spells_encode_writeInstr off data
  | rdCtrl => exact .read 0#3
  | rdStatus => exact .read 1#3
  | rdDuty => exact .read 2#3
  | rdCnt => exact .read 3#3
  | rdUnmapped off => exact readInstr_of_unmapped h ▸ spells_encode_readInstr off

/-- Settles O1: the word of a well-formed operation spells it, and the decoder answers what a word spells. -/
theorem decodeOfEncode : Obligations.DecodeOfEncode := fun _ hwf => (spells_encode hwf).decode_eq

/-- Settles O2: a word that decodes spells its operation, so the operation is well-formed and has that word. -/
theorem encodeOfDecode : Obligations.EncodeOfDecode := fun _ _ hdecode =>
  have hspells := spells_of_decode hdecode
  ⟨hspells.wf, hspells.encode_eq⟩

/-! ## Field K -/

theorem fieldK_encode (i : Instr) : fieldK (encode i) = i.kind.code := by
  cases i <;> exact fieldK_packWord _ _ _

/-- Each kind has an operation with a word. -/
theorem exists_decode_kind (k : Kind) : ∃ (w : OpWord) (i : Instr), decode w = .ok i ∧ i.kind = k := by
  cases k with
  | tick => exact ⟨_, _, Spells.tick.decode_eq, rfl⟩
  | write => exact ⟨_, _, (Spells.write 0#3 0x01#8).decode_eq, rfl⟩
  | read => exact ⟨_, _, (Spells.read 0#3).decode_eq, rfl⟩
  | reset => exact ⟨_, _, Spells.reset.decode_eq, rfl⟩

theorem fieldK_of_decode {w : OpWord} {i : Instr} (h : decode w = .ok i) : fieldK w = i.kind.code := by
  rw [← (spells_of_decode h).encode_eq, fieldK_encode]

/-- Settles O4: a word that decodes is the word of its operation, which holds the kind's code in field K; and every
value of K is the code of a kind. -/
theorem fieldKSelectsKind : Obligations.FieldKSelectsKind := by
  refine ⟨fun w i h => ⟨fieldK_of_decode h, fieldK_of_decode h⟩, rfl, rfl, rfl, rfl, fun b => ?_⟩
  obtain ⟨k, a, d, hw⟩ := exists_eq_packWord (packWord b 0#3 0#8)
  have hb : b = k.code := by simpa using congrArg fieldK hw
  obtain ⟨w, i, hdecode, rfl⟩ := exists_decode_kind k
  exact ⟨w, i, hdecode, hb ▸ fieldK_of_decode hdecode⟩

/-- Settles O6: each of the six words is the word of a well-formed operation. -/
theorem sampleWordsDecode : Obligations.SampleWordsDecode :=
  ⟨decodeOfEncode .tick rfl, decodeOfEncode .enable rfl, decodeOfEncode (.wrCtrlRsv 0x81#8) rfl,
    decodeOfEncode (.wrUnmapped 5#3 0xFF#8) rfl, decodeOfEncode .rdStatus rfl, decodeOfEncode .reset rfl⟩

/-! ## The match/mask table -/

theorem fieldK_and (v w : OpWord) : fieldK (v &&& w) = fieldK v &&& fieldK w := BitVec.extractLsb'_and

theorem fieldA_and (v w : OpWord) : fieldA (v &&& w) = fieldA v &&& fieldA w := BitVec.extractLsb'_and

theorem fieldD_and (v w : OpWord) : fieldD (v &&& w) = fieldD v &&& fieldD w := BitVec.extractLsb'_and

theorem eq_iff_fields_eq (v w : OpWord) : v = w ↔ fieldK v = fieldK w ∧ fieldA v = fieldA w ∧ fieldD v = fieldD w := by
  refine ⟨fun h => h ▸ ⟨rfl, rfl, rfl⟩, fun ⟨hk, ha, hd⟩ => ?_⟩
  rw [← packWord_fields v, ← packWord_fields w, hk, ha, hd]

/-- A row matches field by field: its mask and its pattern are words too. -/
theorem hits_packWord (r : DecodeRow) (k : BitVec 2) (a : Offset) (d : Byte) :
    r.hits (packWord k a d) =
      (decide (k &&& fieldK r.mask = fieldK r.pattern ∧ a &&& fieldA r.mask = fieldA r.pattern ∧
        d &&& fieldD r.mask = fieldD r.pattern) && r.cond (packWord k a d)) := by
  unfold DecodeRow.hits
  congr 1
  rw [Bool.eq_iff_iff]
  simp [eq_iff_fields_eq (packWord k a d &&& r.mask), fieldK_and, fieldA_and, fieldD_and]

/-- Decoding by the rows of a table, tried top to bottom. -/
def decodeByRows (rows : List DecodeRow) (w : OpWord) : Except DecodeError Instr :=
  match rows.find? (·.hits w) with
  | some r => .ok (r.instr w)
  | none => .error .invalidWord

theorem decodeByTable_eq (w : OpWord) : decodeByTable w = decodeByRows decodeRows w := rfl

theorem decodeByRows_nil (w : OpWord) : decodeByRows [] w = .error .invalidWord := rfl

theorem decodeByRows_cons (r : DecodeRow) (rows : List DecodeRow) (w : OpWord) :
    decodeByRows (r :: rows) w = if r.hits w then .ok (r.instr w) else decodeByRows rows w := by
  cases h : r.hits w <;> simp [decodeByRows, h]

/-- The mask `0b100` of field A keeps the bit that the unmapped offsets have set. -/
theorem and_four_eq_iff : ∀ a : Offset, a &&& 4#3 = 4#3 ↔ unmappedOffset a = true := by decide

/-- The mask of a whole field A keeps it. -/
theorem and_seven : ∀ a : Offset, a &&& 7#3 = a := by decide

/-- R49's table as conditions on the fields. -/
theorem decodeByTable_packWord (k : BitVec 2) (a : Offset) (d : Byte) :
    decodeByTable (packWord k a d) =
      if k = 0#2 ∧ a = 0#3 ∧ d = 0#8 then .ok .tick
      else if k = 1#2 ∧ a = 0#3 ∧ d = 0x01#8 then .ok .enable
      else if k = 1#2 ∧ a = 0#3 ∧ d = 0x00#8 then .ok .wrCtrlZero
      else if (k = 1#2 ∧ a = 0#3) ∧ setsReservedCtrl d = true then .ok (.wrCtrlRsv d)
      else if k = 1#2 ∧ a = 1#3 then .ok (.wrStatus d)
      else if k = 1#2 ∧ a = 2#3 then .ok (.wrDuty d)
      else if k = 1#2 ∧ a = 3#3 then .ok (.wrCnt d)
      else if k = 1#2 ∧ unmappedOffset a = true then .ok (.wrUnmapped a d)
      else if k = 2#2 ∧ a = 0#3 ∧ d = 0#8 then .ok .rdCtrl
      else if k = 2#2 ∧ a = 1#3 ∧ d = 0#8 then .ok .rdStatus
      else if k = 2#2 ∧ a = 2#3 ∧ d = 0#8 then .ok .rdDuty
      else if k = 2#2 ∧ a = 3#3 ∧ d = 0#8 then .ok .rdCnt
      else if k = 2#2 ∧ unmappedOffset a = true ∧ d = 0#8 then .ok (.rdUnmapped a)
      else if k = 3#2 ∧ a = 0#3 ∧ d = 0#8 then .ok .reset
      else .error .invalidWord := by
  have hk : k &&& 3#2 = k := BitVec.and_allOnes
  have hd : d &&& 255#8 = d := BitVec.and_allOnes
  have hfieldA : (packWord k a d).extractLsb' 8 3 = a := fieldA_packWord k a d
  have hfieldD : (packWord k a d).extractLsb' 0 8 = d := fieldD_packWord k a d
  simp [decodeByTable_eq, decodeRows, decodeByRows_cons, decodeByRows_nil, hits_packWord, fieldK, fieldA, fieldD,
    hfieldA, hfieldD, and_four_eq_iff, and_seven, hk, hd]

/-- An offset names one of the four registers or is unmapped (R39). -/
theorem offset_cases : ∀ a : Offset, a = 0#3 ∨ a = 1#3 ∨ a = 2#3 ∨ a = 3#3 ∨ unmappedOffset a = true := by decide

/-- Settles O3: for each kind, the rows of the other kinds drop out of the table, and what is left tests A and D as the
pseudocode does. -/
theorem decodeAgreesWithMatchMaskTable : Obligations.DecodeAgreesWithMatchMaskTable := by
  intro w
  obtain ⟨k, a, d, rfl⟩ := exists_eq_packWord w
  rw [decodeByTable_packWord]
  cases k with
  | tick =>
    rw [decode_packWord_tick_code]
    simp [Kind.code]
  | write =>
    rw [decode_packWord_write_code]
    rcases offset_cases a with rfl | rfl | rfl | rfl | hunmapped
    case inl =>
      by_cases hone : d = 0x01#8
      · simp [Kind.code, writeInstr, hone]
      by_cases hzero : d = 0x00#8
      · simp [Kind.code, writeInstr, hzero]
      · simp [Kind.code, writeInstr, hone, hzero, (setsReservedCtrl_iff d).2 ⟨hone, hzero⟩]
    · simp [Kind.code, writeInstr]
    · simp [Kind.code, writeInstr]
    · simp [Kind.code, writeInstr]
    · obtain ⟨hctrl, hstatus, hduty, hcnt⟩ := (unmappedOffset_iff a).1 hunmapped
      simp [Kind.code, writeInstr_of_unmapped hunmapped, hunmapped, hctrl, hstatus, hduty, hcnt]
  | read =>
    rw [decode_packWord_read_code]
    by_cases hdata : d = 0x00#8
    · rcases offset_cases a with rfl | rfl | rfl | rfl | hunmapped
      case inr.inr.inr.inr =>
        obtain ⟨hctrl, hstatus, hduty, hcnt⟩ := (unmappedOffset_iff a).1 hunmapped
        simp [Kind.code, readInstr_of_unmapped hunmapped, hunmapped, hctrl, hstatus, hduty, hcnt, hdata]
      all_goals simp [Kind.code, readInstr, hdata]
    · simp [Kind.code, hdata]
  | reset =>
    rw [decode_packWord_reset_code]
    simp [Kind.code]

/-! ## A placed word, the words of a line, and BOOT -/

/-- Settles O9: the table's number is the word again, and the step takes that word off the queue. -/
theorem placedWordRunsNext : Obligations.PlacedWordRunsNext := by
  intro s i hwf
  have hword : tableWord 16 (encode i).toNat = encode i := by
    apply BitVec.eq_of_toNat_eq
    have hlt : (encode i).toNat < 2 ^ 13 := (encode i).isLt
    rw [tableWord, BitVec.toNat_ofNat]
    omega
  calc step (s.withFetchWord 16 (encode i).toNat)
    _ = step (presentNext (encode i) s) := by rw [State.withFetchWord, hword]
    _ = execWord (encode i) s := step_of_cons rfl
    _ = exec i s := execWord_of_decode (decodeOfEncode i hwf)

/-- Every word of a line spells an operation (R53, R54). -/
theorem spells_of_mem_words {l : AsmLine} {w : OpWord} (h : w ∈ l.words) : ∃ i, Spells w i := by
  cases l with
  | tick =>
    obtain rfl := List.mem_singleton.1 h
    exact ⟨_, .tick⟩
  | ticks n =>
    obtain rfl := List.eq_of_mem_replicate h
    exact ⟨_, .tick⟩
  | reset =>
    obtain rfl := List.mem_singleton.1 h
    exact ⟨_, .reset⟩
  | rd off =>
    obtain rfl := List.mem_singleton.1 h
    exact ⟨_, .read off⟩
  | wr off data =>
    obtain rfl := List.mem_singleton.1 h
    exact ⟨_, .write off data⟩
  | enable =>
    obtain rfl := List.mem_singleton.1 h
    exact ⟨_, .write 0#3 0x01#8⟩
  | boot =>
    rcases List.mem_pair.1 h with rfl | rfl
    · exact ⟨_, .reset⟩
    · exact ⟨_, .write 0#3 0x01#8⟩
  | idle | blank => exact absurd h List.not_mem_nil

theorem map_decode_singleton {w : OpWord} {i : Instr} (h : Spells w i) : [w].map decode = [.ok i] :=
  congrArg (fun r => [r]) h.decode_eq

/-- Settles O56: a line's words are made to spell its operations, and a word that spells one decodes to it. -/
theorem assembledLinesDecode : Obligations.AssembledLinesDecode := by
  refine ⟨fun off => map_decode_singleton (.read off), fun off data => map_decode_singleton (.write off data),
    map_decode_singleton .tick, map_decode_singleton .reset, fun l w hw => ?_⟩
  obtain ⟨i, hspells⟩ := spells_of_mem_words hw
  exact ⟨i, hspells.decode_eq, hspells.wf⟩

/-- Settles O55: the words of R54 are the packed words written as numbers. -/
theorem pseudoInstructionWords : Obligations.PseudoInstructionWords :=
  ⟨rfl, rfl, fun _ => rfl, rfl, rfl⟩

/-- Settles O57: RESET is performed at power-on, where no word waits, and leaves the block operable for
ENABLE. -/
theorem bootFromPowerOn : Obligations.BootFromPowerOn := by
  intro p hp
  have hreset : execWord (packWord Kind.reset.code 0#3 0#8) (State.powerOn p) = .next (State.resetOf p) := by
    rw [execWord_of_decode Spells.reset.decode_eq]
    exact exec_reset_eq_resetOf (s := State.powerOn p) hp
  have henable : execWord (packWord Kind.write.code 0#3 0x01#8) (State.resetOf p) =
      .next (setEnable (State.resetOf p)) :=
    execWord_write 0#3 0x01#8 ⟨hp, rfl⟩
  rw [AsmLine.words, runWords_cons_next_iff]
  exact ⟨_, hreset, runWords_cons_next_iff.2 ⟨_, henable, rfl⟩⟩

/-! ## Invalid words -/

theorem decode_eq_invalidWord_iff (w : OpWord) :
    decode w = .error .invalidWord ↔
      ((fieldK w = 0b00#2 ∨ fieldK w = 0b11#2) ∧ (fieldA w ≠ 0#3 ∨ fieldD w ≠ 0#8)) ∨
        (fieldK w = 0b10#2 ∧ fieldD w ≠ 0#8) := by
  obtain ⟨k, a, d, rfl⟩ := exists_eq_packWord w
  simp only [fieldK_packWord, fieldA_packWord, fieldD_packWord]
  cases k with
  | tick =>
    rw [decode_packWord_tick_code]
    simp [Kind.code, imp_iff_not_or]
  | write =>
    rw [decode_packWord_write_code]
    simp [Kind.code]
  | read =>
    rw [decode_packWord_read_code]
    simp [Kind.code]
  | reset =>
    rw [decode_packWord_reset_code]
    simp [Kind.code, imp_iff_not_or]

theorem execWord_of_invalidWord {w : OpWord} (h : decode w = .error .invalidWord) :
    execWord w s = .refused .invalidWord := by
  simp [execWord, h]

end Sys2Proof.Machine

/-! The clock cycle (spec 30_encoding.md R50, R55; 60_exceptions.md R95): the operations the ports present, the words
that encode them, and what a whole cycle does. -/

namespace Sys2Proof.Machine

variable {s : State}

/-! ## The operations of a cycle -/

theorem ops_of_rst {c : Inputs} (h : c.rst = true) : c.ops = [.reset] := by
  simp [Inputs.ops, h]

theorem ops_of_not_rst {c : Inputs} (h : c.rst = false) : c.ops = c.readOps ++ c.updateOps := by
  simp [Inputs.ops, h]

/-- What the ports can present: RESET, or the cycle's READ, its TICK and its WRITE (R55). -/
theorem mem_ops_cases {c : Inputs} {i : Instr} (h : i ∈ c.ops) :
    i = .reset ∨ i = readInstr c.hostOff ∨ i = .tick ∨ i = writeInstr c.hostOff c.hostWdata := by
  cases hrst : c.rst with
  | true => exact .inl (by simpa [ops_of_rst hrst] using h)
  | false =>
    have hstrobes : (c.hostRd = true ∧ i = readInstr c.hostOff) ∨ (c.tick = true ∧ i = .tick) ∨
        (c.hostWr = true ∧ i = writeInstr c.hostOff c.hostWdata) := by
      simpa [ops_of_not_rst hrst, Inputs.readOps, Inputs.updateOps] using h
    exact .inr (hstrobes.imp And.right (Or.imp And.right And.right))

theorem wf_of_mem_ops {c : Inputs} {i : Instr} (h : i ∈ c.ops) : i.wf = true := by
  rcases mem_ops_cases h with rfl | rfl | rfl | rfl
  · rfl
  · exact readInstr_wf _
  · rfl
  · exact writeInstr_wf _ _

/-- Settles O5: the decoder by its four kinds; a step takes the placed word and refuses it before it looks at the
state; and the words of a cycle are words of well-formed operations. -/
theorem invalidWordsRefused : Obligations.InvalidWordsRefused := by
  refine ⟨decode_eq_invalidWord_iff, fun w s hinvalid => ?refused, fun c w hw => ?presented⟩
  case refused => rw [step_of_cons (presentNext_input s w), execWord_of_invalidWord hinvalid]
  case presented =>
    obtain ⟨i, hi, rfl⟩ := List.mem_map.1 hw
    exact ⟨i, decodeOfEncode i (wf_of_mem_ops hi)⟩

theorem runWords_map_encode {is : List Instr} (h : ∀ i ∈ is, i.wf = true) :
    runWords (is.map encode) s = runOps is s := by
  induction is generalizing s with
  | nil => rfl
  | cons i is ih =>
    obtain ⟨hi, his⟩ := List.forall_mem_cons.1 h
    have htail : runWords (is.map encode) = runOps is := funext fun _ => ih his
    rw [List.map_cons, runWords, runOps, execWord_of_decode (decodeOfEncode i hi), htail]

/-- Settles O38: the ports present well-formed operations only, and those survive the round trip through their
words. -/
theorem cycleWordsPerformCycleOps : Obligations.CycleWordsPerformCycleOps :=
  fun _ _ => runWords_map_encode fun _ => wf_of_mem_ops

/-! ## Operations one after another -/

theorem andThen_next (r : Result) : andThen r .next = r := by
  cases r <;> rfl

theorem runOps_singleton (i : Instr) : runOps [i] s = exec i s := andThen_next _

theorem runOps_append (is js : List Instr) : runOps (is ++ js) s = andThen (runOps is s) (runOps js) := by
  induction is generalizing s with
  | nil => rfl
  | cons i is ih =>
    have htail : runOps (is ++ js) = fun u => andThen (runOps is u) (runOps js) := funext fun _ => ih
    rw [List.cons_append, runOps, runOps, htail, andThen_assoc]

theorem operable_effect (i : Instr) (h : Operable s) : Operable (effect i (quiet s)) := by
  obtain ⟨hcfg, -, hreset⟩ := parametersAndInputUntouched i s _ (exec_of_operable i h)
  exact ⟨hcfg ▸ h.1, hreset⟩

theorem runOps_of_operable (is : List Instr) (h : Operable s) : ∃ u, runOps is s = .next u ∧ Operable u := by
  induction is generalizing s with
  | nil => exact ⟨s, rfl, h⟩
  | cons i is ih =>
    obtain ⟨u, hrun, hu⟩ := ih (operable_effect i h)
    exact ⟨u, runOps_cons_next_iff.2 ⟨_, exec_of_operable i h, hrun⟩, hu⟩

/-- No operation reads the byte of the step before. -/
theorem exec_quiet (i : Instr) : exec i (quiet s) = exec i s := by
  by_cases hi : i = .reset
  · rw [hi]
    rfl
  · rw [exec_eq_perform hi, exec_eq_perform hi]
    rfl

/-- Operations from a state without a byte end where they end with one, but for the byte where there were none. -/
theorem runOps_quiet {is : List Instr} {u : State} (h : runOps is s = .next u) :
    ∃ t, runOps is (quiet s) = .next t ∧ quiet t = quiet u := by
  cases is with
  | nil =>
    cases h
    exact ⟨quiet s, rfl, rfl⟩
  | cons i is => exact ⟨u, by rw [runOps, exec_quiet, ← h, runOps], rfl⟩

/-! ## Whole cycles -/

theorem clockCycle_of_rst {c : Inputs} (h : c.rst = true) : clockCycle c s = exec .reset s := by
  simp [clockCycle, h]

theorem clockCycle_of_not_rst {c : Inputs} (h : c.rst = false) :
    clockCycle c s =
      andThen (runOps c.readOps (quiet s)) fun r =>
        andThen (runOps c.updateOps r) fun t => .next { t with rdata := r.rdata } := by
  simp [clockCycle, h]

/-- A cycle without RESET leaves the state its operations leave, but for `rdata`, which is the byte of its READ from
the state before the cycle. -/
theorem clockCycle_of_operable {c : Inputs} (hrst : c.rst = false) (h : Operable s) :
    ∃ u, runOps c.ops s = .next u ∧
      clockCycle c s = .next { u with rdata := if c.hostRd then some (hostRead c.hostOff s) else none } := by
  obtain ⟨u, hrun, -⟩ := runOps_of_operable c.ops h
  refine ⟨u, hrun, ?_⟩
  rw [ops_of_not_rst hrst, runOps_append] at hrun
  rw [clockCycle_of_not_rst hrst]
  cases hread : c.hostRd with
  | true =>
    have hops : c.readOps = [readInstr c.hostOff] := by simp [Inputs.readOps, hread]
    have hbyte : exec (readInstr c.hostOff) s = .next (returnByte (hostRead c.hostOff s) (quiet s)) := by
      rw [exec_of_operable _ h, effect_readInstr, hostRead_quiet]
    rw [hops, runOps_singleton, hbyte] at hrun
    rw [hops, runOps_singleton, exec_quiet, hbyte, andThen, show runOps c.updateOps _ = _ from hrun]
    rfl
  | false =>
    have hops : c.readOps = [] := by simp [Inputs.readOps, hread]
    rw [hops] at hrun
    obtain ⟨t, ht, hquiet⟩ := runOps_quiet (s := s) (u := u) hrun
    rw [hops, runOps, andThen, ht]
    exact congrArg Host.Outcome.next hquiet

/-- A cycle with nothing but a tick. -/
def Inputs.tickOnly (off : Offset) (data : Byte) : Inputs where
  rst := false
  tick := true
  hostWr := false
  hostRd := false
  hostOff := off
  hostWdata := data

/-- The cycle of ENABLE with a tick. -/
def Inputs.tickEnable : Inputs := { Inputs.tickOnly 0#3 0x01#8 with hostWr := true }

theorem clockCycle_tickOnly (off : Offset) (data : Byte) (h : Operable s) :
    clockCycle (.tickOnly off data) s = exec .tick s := by
  obtain ⟨u, hrun, hcycle⟩ := clockCycle_of_operable (c := .tickOnly off data) rfl h
  have htick : exec .tick s = .next u := (runOps_singleton .tick).symm.trans hrun
  have hbyte : u.rdata = none := by
    obtain ⟨-, -, rfl⟩ := exec_next_iff.1 htick
    exact tickEvent_rdata
  rw [hcycle, htick]
  exact congrArg (fun r => Host.Outcome.next { u with rdata := r }) hbyte.symm

theorem runCycles_tickOnly (k : Nat) (off : Offset) (data : Byte) (h : Operable s) :
    runCycles (List.replicate k (.tickOnly off data)) s = runOps (List.replicate k .tick) s := by
  induction k generalizing s with
  | zero => rfl
  | succ k ih =>
    rw [List.replicate_succ, List.replicate_succ, runCycles, runOps, clockCycle_tickOnly off data h,
      exec_of_operable .tick h]
    exact ih (operable_effect .tick h)

/-- A tick in the cycle of ENABLE comes first and finds events masked. -/
theorem runOps_tick_enable (h : Operable s) (hen : s.en = 0#1) :
    runOps [.tick, .enable] s = .next (setEnable (quiet s)) := by
  have htick : exec .tick s = .next (quiet s) := by
    rw [exec_of_operable _ h]
    exact congrArg _ (tickEvent_of_masked (s := quiet s) hen)
  exact runOps_cons_next_iff.2 ⟨_, htick, by rw [runOps_singleton, exec_quiet, exec_of_operable _ h]; rfl⟩

theorem clockCycle_tickEnable (h : Operable s) (hen : s.en = 0#1) :
    clockCycle .tickEnable s = .next (setEnable (quiet s)) := by
  obtain ⟨u, hrun, hcycle⟩ := clockCycle_of_operable (c := .tickEnable) rfl h
  obtain rfl : setEnable (quiet s) = u := by
    simpa using (runOps_tick_enable h hen).symm.trans hrun
  exact hcycle

/-- Settles O37: a cycle's operations are read off its strobes; what it does is `clockCycle_of_operable`, of which the
cycle of ENABLE and the cycle of a tick alone are two cases. -/
theorem clockCycleOrder : Obligations.ClockCycleOrder := by
  refine ⟨fun c => ops_of_rst, ?order, ?reset, fun c s => clockCycle_of_operable, ?enable, ?held⟩
  case order =>
    intro c hrst
    rw [ops_of_not_rst hrst, Inputs.readOps, Inputs.updateOps, List.append_assoc]
  case reset =>
    intro c s hrst
    rw [clockCycle_of_rst hrst, ops_of_rst hrst, runOps_singleton]
  case enable => exact fun s hoperable hen => clockCycle_tickEnable hoperable hen
  case held => exact fun k off data s hoperable => runCycles_tickOnly k off data hoperable

end Sys2Proof.Machine

/-! The periodic event (spec 40_event.md R57 to R70): what an enabled and a masked TICK do, TICK as a state machine,
TICKs in a row, and the bounds of the event's two locals in the states reachable from RESET. -/

namespace Sys2Proof.Machine

variable {s t : State} {n : Nat}

/-! ## Every operation -/

/-- Settles O12: an operable block performs the effect of the operation, whatever its flags, and no operation takes
`was_reset` or the parameters away. -/
theorem operableBlockPerformsEveryOperation : Obligations.OperableBlockPerformsEveryOperation :=
  fun i _ hoperable => ⟨_, exec_of_operable i hoperable, operable_effect i hoperable⟩

/-! ## One TICK -/

theorem exec_tick_of_enabled (h : Operable s) (hen : s.en = 1#1) :
    exec .tick s = .next (periodicEvent (quiet s)) := by
  rw [exec_of_operable .tick h]
  exact congrArg _ (tickEvent_of_enabled (s := quiet s) hen)

theorem exec_tick_of_masked (h : Operable s) (hen : s.en = 0#1) : exec .tick s = .next (quiet s) := by
  rw [exec_of_operable .tick h]
  exact congrArg _ (tickEvent_of_masked (s := quiet s) hen)

/-- The two branches of the boundary check exclude each other (R63, R64). -/
theorem not_max_le_and_nonpos {p : Config.Params} (hp : p.wf = true) (d : Int) : ¬ (d ≥ p.max ∧ d ≤ 0) := by
  have hmax := max_pos hp
  omega

theorem outOfRange_iff (p : Config.Params) (d : Int) : outOfRange p d = true ↔ d < 0 ∨ d > p.max := by
  simp [outOfRange]

/-- A byte keeps an integer modulo 256, so reducing it first changes nothing (R59). -/
theorem ofInt_emod_256 (d : Int) : BitVec.ofInt 8 (d % 256) = BitVec.ofInt 8 d :=
  BitVec.eq_of_toInt_eq (by simpa [BitVec.toInt_ofInt] using Int.emod_bmod d 256)

theorem ofNat_mod_256 (c : Nat) : BitVec.ofNat 8 (c % 256) = BitVec.ofNat 8 c :=
  BitVec.eq_of_toNat_eq (by simp)

/-- Settles O13: the event field by field, with its two locals written out. -/
theorem enabledTickResult : Obligations.EnabledTickResult := by
  intro s d c1 hoperable hen hd hc1
  obtain rfl : d = nextDuty s := hd
  obtain rfl : c1 = nextCount s := hc1
  refine ⟨?_, not_max_le_and_nonpos hoperable.1 _⟩
  rw [exec_tick_of_enabled hoperable hen, periodicEvent_eq, ofInt_emod_256, ofNat_mod_256]
  simp only [outOfRange_iff]
  rfl

/-- Settles O15: the event writes none of the fields named, and of the flags it raises DUTY_RANGE alone. -/
theorem tickFrame : Obligations.TickFrame := by
  intro s t hexec
  obtain ⟨-, -, rfl⟩ := exec_next_iff.1 hexec
  refine ⟨tickEvent_en, ?mismatch, ?access, ?range, tickEvent_wasReset, tickEvent_cfg, tickEvent_input,
    tickEvent_rdata⟩
  case mismatch => exact (flag_tickEvent _).trans (by simp)
  case access => exact (flag_tickEvent _).trans (by simp)
  case range => exact effect_keeps_flag (s := quiet s) (i := .tick) nofun

/-- Settles O14: a masked TICK leaves the state as it was, so ENABLE after it finds what ENABLE alone finds. -/
theorem maskedTickDiscarded : Obligations.MaskedTickDiscarded := by
  refine ⟨Spells.tick.decode_eq, fun s hoperable hen => ⟨exec_tick_of_masked hoperable hen, ?_⟩⟩
  rw [runOps, exec_tick_of_masked hoperable hen, andThen, runOps_singleton, exec_quiet]

/-! ## The state machine of the direction -/

/-- An enabled TICK writes `dir` by the boundary check, and only at the threshold (R62 to R64). -/
theorem exec_tick_dir (hen : s.en = 1#1) (hexec : exec .tick s = .next t) :
    t.dir =
      if nextCount s = s.cfg.threshold then
        if nextDuty s ≥ s.cfg.max then 1#1 else if nextDuty s ≤ 0 then 0#1 else s.dir
      else s.dir := by
  obtain ⟨hwf, hreset, -⟩ := exec_next_iff.1 hexec
  have hoperable : Operable s := ⟨hwf, by simpa using hreset⟩
  obtain rfl : periodicEvent (quiet s) = t := by
    simpa using (exec_tick_of_enabled hoperable hen).symm.trans hexec
  rw [periodicEvent_eq]
  rfl

/-- Settles O16: from RISING only the branch at `MAX` changes the direction, and from FALLING only the branch at 0,
which a well-formed pair does not shadow by the other. -/
theorem directionStateMachine : Obligations.DirectionStateMachine := by
  intro s t hen hexec
  obtain ⟨hwf, -, -⟩ := exec_next_iff.1 hexec
  rw [exec_tick_dir hen hexec]
  by_cases hthreshold : nextCount s = s.cfg.threshold
  case neg => exact ⟨fun hrising => by simp [hthreshold, hrising], fun hfalling => by simp [hthreshold, hfalling]⟩
  constructor
  · intro hrising
    simp [hthreshold, hrising]
  · intro hfalling
    by_cases hmax : nextDuty s ≥ s.cfg.max
    · have hpos : ¬ nextDuty s ≤ 0 := fun hzero => not_max_le_and_nonpos hwf _ ⟨hmax, hzero⟩
      simp [hthreshold, hmax, hpos]
    · simp [hthreshold, hmax, hfalling]

/-! ## TICKs in a row -/

/-- Settles O39: each TICK of an operable block is one event, and leaves the block operable for the next. -/
theorem ticksAreNeverMergedOrLost : Obligations.TicksAreNeverMergedOrLost := by
  intro k s hoperable
  induction k generalizing s with
  | zero => rfl
  | succ k ih =>
    rw [List.replicate_succ, runOps, exec_of_operable .tick hoperable]
    exact ih _ (operable_effect .tick hoperable)

/-! ## The locals of the event in the states reachable from RESET -/

/-- Settles O48: the new duty value is the ramp's next duty, which is at most its peak and fits its byte. -/
theorem noWrapFromReset : Obligations.NoWrapFromReset := by
  intro ws s t hrun
  obtain ⟨hwf, hramp⟩ := runFromReset_onRamp hrun
  obtain ⟨hmax, -, hbyte⟩ := (params_wf_iff t.cfg).1 hwf
  have hnext := hramp.nextDuty_eq hwf
  have hstored := hramp.toNat_nextDuty hwf
  have hpeak := rampDuty_le_rampPeak t.cfg (countEvents ws s 0 + 1)
  have hle := rampPeak_le t.cfg
  omega

/-- On the ramp the counter is a remainder by `THRESHOLD` (R31). -/
theorem OnRamp.counterBelow (h : OnRamp s n) (hwf : s.cfg.wf = true) : CounterBelow s :=
  ⟨hwf, h.cnt ▸ rampCnt_lt hwf n⟩

/-- Settles O49: below the threshold the incremented counter is at most the threshold, so it reaches it only by being
equal to it. -/
theorem counterStaysBelowThreshold : Obligations.CounterStaysBelowThreshold := by
  intro ws s t hrun
  obtain ⟨hwf, hramp⟩ := runFromReset_onRamp hrun
  obtain ⟨-, hbelow⟩ := hramp.counterBelow hwf
  obtain ⟨hmax, -, hbyte⟩ := (params_wf_iff t.cfg).1 hwf
  have hcount : nextCount t = t.cnt.toNat + 1 := rfl
  omega

end Sys2Proof.Machine

/-! The host operations (spec 41_host.md R71 to R84): what no READ or WRITE touches, the three outcomes of a WRITE and
the byte of each READ. -/

namespace Sys2Proof.Machine

variable {s t : State}

/-! ## The frame -/

theorem ne_tick_and_ne_reset_of_host {i : Instr} (hi : i.kind = .read ∨ i.kind = .write) : i ≠ .tick ∧ i ≠ .reset := by
  constructor <;> rintro rfl <;> simp [Instr.kind] at hi

/-- No bit of `err` is cleared where every flag that was set is still set. -/
theorem err_and_eq_of_flags (h : ∀ k, s.flag k = true → t.flag k = true) : s.err &&& t.err = s.err := by
  refine err_eq_of_flags (s := { s with err := s.err &&& t.err }) fun k => ?_
  have hboth : ({ s with err := s.err &&& t.err } : State).flag k = (s.flag k && t.flag k) := BitVec.getLsbD_and
  rw [hboth, Bool.and_eq_left_iff_imp]
  exact h k

/-- Settles O25: the registers of the ramp are TICK's and RESET's to write, only RESET clears `en` or a flag, and no
operation touches the model's own fields named. -/
theorem hostOperationsFrame : Obligations.HostOperationsFrame := by
  intro i s t hi hexec
  obtain ⟨htick, hreset⟩ := ne_tick_and_ne_reset_of_host hi
  obtain ⟨-, -, rfl⟩ := exec_next_iff.1 hexec
  have hramp : SameRamp (quiet s) (effect i (quiet s)) := effect_sameRamp htick hreset
  refine ⟨hramp.duty, hramp.cnt, hramp.dir, hramp.comp, ?en, ?err, hramp.wasReset, effect_frame i⟩
  case en =>
    intro hen
    simp [effect_en, hreset, hen]
  case err => exact err_and_eq_of_flags fun k hk => effect_keeps_flag (s := quiet s) hreset hk

/-! ## Writes -/

/-- Settles O17: 0x0801 is the word of ENABLE, whose effect is to set `en`. -/
theorem enableResult : Obligations.EnableResult :=
  ⟨decodeOfEncode .enable rfl, fun _ hoperable => exec_of_operable .enable hoperable⟩

/-- Settles O18: 0x0800 is the word of WR_CTRL_ZERO, which has no effect. -/
theorem ctrlZeroWritesNothing : Obligations.CtrlZeroWritesNothing :=
  ⟨decodeOfEncode .wrCtrlZero rfl, fun _ hoperable => exec_of_operable .wrCtrlZero hoperable⟩

/-- The illegal writes are one and the same operation on the state: they raise HOST_ACCESS (R71). -/
theorem effect_of_illegal {i : Instr} (hi : illegalInstr i = true) : effect i s = illegalWrite s := by
  cases i with
  | wrCtrlRsv | wrStatus | wrDuty | wrCnt | wrUnmapped => rfl
  | _ => nomatch hi

theorem exec_of_illegal {i : Instr} (hi : illegalInstr i = true) (h : Operable s) :
    exec i s = .next { s with err := s.err ||| 0b100#3, rdata := none } := by
  rw [exec_of_operable i h, effect_of_illegal hi]
  rfl

/-- Settles O19: each of the five is illegal, whatever its operands. -/
theorem illegalWritesOnlyRaiseHostAccess : Obligations.IllegalWritesOnlyRaiseHostAccess :=
  fun _ _ _ hoperable =>
    ⟨exec_of_illegal rfl hoperable, exec_of_illegal rfl hoperable, exec_of_illegal rfl hoperable,
      exec_of_illegal rfl hoperable, exec_of_illegal rfl hoperable⟩

/-! ## Reads -/

/-- A READ whose effect is to return the byte `b` leaves every register, and puts `b` on `host_rdata`. -/
theorem exec_of_returnByte {i : Instr} {b : Byte} (hi : effect i (quiet s) = returnByte b (quiet s))
    (h : Operable s) : exec i s = .next { s with rdata := some b } := by
  rw [exec_of_operable i h, hi]
  rfl

/-- Settles O22: each word is the word of a well-formed READ, and each READ returns its byte of the window; DUTY's is
the register that drives `pw_out`. -/
theorem readsReturnTheirByte : Obligations.ReadsReturnTheirByte := by
  refine ⟨decodeOfEncode .rdCtrl rfl, decodeOfEncode .rdStatus rfl, decodeOfEncode .rdDuty rfl,
    decodeOfEncode .rdCnt rfl, decodeOfEncode (.rdUnmapped 4#3) rfl, decodeOfEncode (.rdUnmapped 5#3) rfl,
    decodeOfEncode (.rdUnmapped 6#3) rfl, decodeOfEncode (.rdUnmapped 7#3) rfl, fun s off hoperable => ?_⟩
  obtain ⟨hpwOut, -, -⟩ := outputsAreRegisters s
  rw [hpwOut]
  exact ⟨exec_of_returnByte rfl hoperable, exec_of_returnByte rfl hoperable, exec_of_returnByte rfl hoperable,
    exec_of_returnByte rfl hoperable, exec_of_returnByte rfl hoperable⟩

end Sys2Proof.Machine

/-! The fault flags (spec 60_exceptions.md R85 to R92): which operation raises which, that they steer nothing, the two
invariants that tell a faulted block, and which runs are good. -/

namespace Sys2Proof.Machine

variable {s t : State}

/-! ## Which operation sets which flag -/

/-- A host operation that is no illegal write leaves `err` (R84, R90). -/
theorem effect_err_of_legal_host {i : Instr} (htick : i ≠ .tick) (hreset : i ≠ .reset)
    (hlegal : illegalInstr i = false) : (effect i s).err = s.err := by
  cases i with
  | tick => exact absurd rfl htick
  | reset => exact absurd rfl hreset
  | wrCtrlRsv | wrStatus | wrDuty | wrCnt | wrUnmapped => nomatch hlegal
  | enable | wrCtrlZero | rdCtrl | rdStatus | rdDuty | rdCnt | rdUnmapped => rfl

/-- Of the host operations the illegal writes raise HOST_ACCESS, and nothing else is raised (R90). -/
theorem flag_effect_of_host {i : Instr} (htick : i ≠ .tick) (hreset : i ≠ .reset) (k : Cause) :
    (effect i s).flag k = (s.flag k || (illegalInstr i && decide (k = .hostAccess))) := by
  cases hillegal : illegalInstr i with
  | true =>
    rw [effect_of_illegal hillegal, Bool.true_and]
    exact flag_raise .hostAccess k
  | false => simp [State.flag, effect_err_of_legal_host htick hreset hillegal]

theorem flag_cfgMismatch_resetWrites :
    (resetWrites s).flag .cfgMismatch = decide (s.cfg.max ≠ s.cfg.threshold) := by
  by_cases h : s.cfg.max = s.cfg.threshold <;> simp [flag_resetWrites, Config.Params.matched, h]

theorem flag_dutyRange_tickEvent :
    (tickEvent s).flag .dutyRange =
      (s.flag .dutyRange || decide (s.en = 1#1 ∧ (nextDuty s < 0 ∨ nextDuty s > s.cfg.max))) := by
  rw [flag_tickEvent, Bool.eq_iff_iff]
  simp [outOfRange_iff]

/-- Settles O31: RESET writes all three flags, TICK raises DUTY_RANGE alone and an illegal write HOST_ACCESS alone. -/
theorem flagsAfterEachOperation : Obligations.FlagsAfterEachOperation := by
  intro i s t hexec
  obtain ⟨-, -, rfl⟩ := exec_next_iff.1 hexec
  by_cases hreset : i = .reset
  · subst hreset
    exact ⟨flag_cfgMismatch_resetWrites, flag_resetWrites .dutyRange, flag_resetWrites .hostAccess⟩
  by_cases htick : i = .tick
  · subst htick
    refine ⟨(flag_tickEvent .cfgMismatch).trans ?_, flag_dutyRange_tickEvent.trans ?_,
      (flag_tickEvent .hostAccess).trans ?_⟩ <;> simp [illegalInstr]
  · simp [flag_effect_of_host htick hreset, htick, hreset]

/-! ## The flags steer nothing -/

/-- The state with the flags `e`, in place of its own. -/
def withErr (e : BitVec 3) (s : State) : State := { s with err := e }

theorem tickEvent_withErr (e : BitVec 3) :
    tickEvent (withErr e s) = withErr (tickEvent (withErr e s)).err (tickEvent s) := by
  rw [tickEvent_eq, tickEvent_eq]
  rfl

/-- The flags reach no field but `err` itself and, by way of the STATUS byte, `rdata` (R87, R92). -/
theorem effect_withErr (e : BitVec 3) {i : Instr} (hi : i ≠ .rdStatus) :
    effect i (withErr e s) = withErr (effect i (withErr e s)).err (effect i s) := by
  cases i with
  | tick => exact tickEvent_withErr e
  | rdStatus => exact absurd rfl hi
  | _ => rfl

/-- Settles O33: whether an operation is performed is a matter of the parameters and of `was_reset`, and what it does
then reads no flag. -/
theorem flagsSteerNothing : Obligations.FlagsSteerNothing := by
  intro i s t e hexec
  obtain ⟨hwf, hmark, rfl⟩ := exec_next_iff.1 hexec
  refine ⟨effect i (withErr e (quiet s)), exec_next_iff.2 ⟨hwf, hmark, rfl⟩, ?_⟩
  by_cases hi : i = .rdStatus
  · subst hi
    exact ⟨rfl, fun h => absurd rfl h⟩
  · have hsame := effect_withErr (s := quiet s) e hi
    have hrdata : (effect i (withErr e (quiet s))).rdata = (effect i (quiet s)).rdata := by
      rw [hsame]
      rfl
    refine ⟨?_, fun _ => hrdata⟩
    rw [hrdata]
    exact hsame

/-! ## CFG_MISMATCH -/

theorem SameRamp.mismatchFlagged (hsame : SameRamp s t) (h : MismatchFlagged s) : MismatchFlagged t := by
  rw [MismatchFlagged, hsame.mismatch, hsame.cfg]
  exact h

theorem tickEvent_mismatchFlagged (h : MismatchFlagged s) : MismatchFlagged (tickEvent s) := by
  rw [MismatchFlagged, flag_tickEvent, tickEvent_cfg, h]
  simp

theorem resetWrites_mismatchFlagged : MismatchFlagged (resetWrites s) := flag_cfgMismatch_resetWrites

theorem exec_mismatchFlagged {i : Instr} (h : MismatchFlagged s) (hexec : exec i s = .next t) : MismatchFlagged t :=
  exec_keeps SameRamp.mismatchFlagged tickEvent_mismatchFlagged (fun _ => resetWrites_mismatchFlagged) h hexec

/-- Settles O59: RESET writes `err[0]` by the parameters, and neither TICK nor a host operation touches it. -/
theorem stepKeepsMismatchFlagged : Obligations.StepKeepsMismatchFlagged := by
  constructor
  · intro p
    rw [resetOf_eq_resetWrites]
    exact resetWrites_mismatchFlagged
  · intro s t
    exact step_keeps SameRamp.mismatchFlagged tickEvent_mismatchFlagged fun _ => resetWrites_mismatchFlagged

/-! ## DUTY_RANGE -/

/-- The `n`-th event after RESET and ENABLE is the `n`-th of the ramp. -/
theorem ticks_enabled_resetOf {p : Config.Params} (hp : p.wf = true) (n : Nat) :
    (ticks n (setEnable (State.resetOf p))).cfg = p ∧ OnRamp (ticks n (setEnable (State.resetOf p))) n := by
  have hstart : OnRamp (setEnable (State.resetOf p)) 0 :=
    (effect_sameRamp (i := .enable) nofun nofun).onRamp (resetOf_onRamp hp)
  have hramp := ticks_onRamp (s := setEnable (State.resetOf p)) hp rfl hstart n
  obtain ⟨hcfg, -⟩ := ticks_frame (s := setEnable (State.resetOf p)) n
  rw [Nat.zero_add] at hramp
  exact ⟨hcfg, hramp⟩

/-- Settles O50: the range check in any state, and the closed form from RESET, whose first value above `MAX` is that of
event `MAX + 1`. -/
theorem dutyRangeExactly : Obligations.DutyRangeExactly := by
  refine ⟨?outside, ?flagged, ?first⟩
  case outside =>
    intro s t hen hexec hout
    obtain ⟨-, hrange, -⟩ := flagsAfterEachOperation .tick s t hexec
    simp [hrange, hen, hout]
  case flagged =>
    intro p hp n
    obtain ⟨hcfg, hramp⟩ := ticks_enabled_resetOf hp n
    rw [hramp.range, hcfg, rampRangeFault_iff]
  case first =>
    intro p hp hdvd
    obtain ⟨hcfg, hramp⟩ := ticks_enabled_resetOf hp (p.max + 1)
    rw [hramp.duty, hcfg, rampDuty_of_le hp (max_lt_rampPeak hp hdvd)]

/-! ## A matched block without a fault -/

theorem not_faulted_iff : s.faulted = false ↔ ∀ k, s.flag k = false := by
  have hclear : s.faulted = false ↔ s.err = 0b000#3 := by simp [State.faulted]
  have hflag (k : Cause) : ({ s with err := 0b000#3 } : State).flag k = false := BitVec.getLsbD_zero
  rw [hclear]
  constructor
  · intro herr k
    rw [State.flag, herr]
    exact hflag k
  · intro h
    exact err_eq_of_flags (t := { s with err := 0b000#3 }) fun k => (h k).trans (hflag k).symm

/-- On the ramp of a matched pair no flag but HOST_ACCESS is ever set (R88, R89). -/
theorem RampInv.not_faulted_iff_of_matched (h : RampInv s) (hmatched : s.cfg.matched = true) :
    s.faulted = false ↔ s.flag .hostAccess = false := by
  obtain ⟨-, -, n, hramp⟩ := h
  have hpair : s.cfg.max = s.cfg.threshold := (params_matched_iff s.cfg).1 hmatched
  refine not_faulted_iff.trans ⟨fun hall => hall .hostAccess, fun haccess k => ?_⟩
  cases k with
  | cfgMismatch => simp [hramp.mismatch, hpair]
  | dutyRange => rw [hramp.range, rampRangeFault_of_dvd (hpair ▸ Nat.dvd_refl _)]
  | hostAccess => exact haccess

/-- A matched block on its ramp with no fault flag set, whatever words wait for it (R91). -/
structure MatchedUnfaulted (s : State) : Prop where
  ramp : RampInv s
  matched : s.cfg.matched = true
  unfaulted : s.faulted = false

theorem legalUnfaulted_iff : LegalUnfaulted s ↔ MatchedUnfaulted s ∧ ∀ w ∈ s.input, LegalWord w :=
  ⟨fun ⟨hramp, hmatched, herr, hlegal⟩ => ⟨⟨hramp, hmatched, herr⟩, hlegal⟩,
    fun ⟨⟨hramp, hmatched, herr⟩, hlegal⟩ => ⟨hramp, hmatched, herr, hlegal⟩⟩

theorem MatchedUnfaulted.of_sameRamp (h : MatchedUnfaulted s) (hsame : SameRamp s t) (herr : t.err = s.err) :
    MatchedUnfaulted t where
  ramp := hsame.rampInv h.ramp
  matched := by rw [hsame.cfg, h.matched]
  unfaulted := by rw [State.faulted, herr, ← State.faulted, h.unfaulted]

theorem resetWrites_matchedUnfaulted (hwf : s.cfg.wf = true) (hmatched : s.cfg.matched = true) :
    MatchedUnfaulted (resetWrites s) where
  ramp := resetWrites_rampInv hwf
  matched := hmatched
  unfaulted := by simp [State.faulted, resetErr_eq, hmatched]

theorem exec_rampInv {i : Instr} (h : RampInv s) (hexec : exec i s = .next t) : RampInv t :=
  exec_keeps SameRamp.rampInv tickEvent_rampInv resetWrites_rampInv h hexec

/-- A legal operation is performed, and sets no flag (R91). -/
theorem MatchedUnfaulted.exec_legal (h : MatchedUnfaulted s) {i : Instr} (hlegal : illegalInstr i = false) :
    ∃ t, exec i s = .next t ∧ MatchedUnfaulted t := by
  obtain ⟨hwf, hmark, -⟩ := h.ramp
  have hexec := exec_of_operable i (s := s) ⟨hwf, hmark⟩
  obtain ⟨hcfg, -, -⟩ := parametersAndInputUntouched i s _ hexec
  obtain ⟨-, -, haccess⟩ := flagsAfterEachOperation i s _ hexec
  have hramp := exec_rampInv h.ramp hexec
  have hmatched := hcfg ▸ h.matched
  have hclear := (h.ramp.not_faulted_iff_of_matched h.matched).1 h.unfaulted
  refine ⟨_, hexec, hramp, hmatched, (hramp.not_faulted_iff_of_matched hmatched).2 ?_⟩
  simpa [hlegal, hclear] using haccess

theorem MatchedUnfaulted.execWord_legal (h : MatchedUnfaulted s) {w : OpWord} (hw : LegalWord w) :
    ∃ t, execWord w s = .next t ∧ MatchedUnfaulted t := by
  obtain ⟨i, hdecode, hlegal⟩ := hw
  rw [execWord_of_decode hdecode]
  exact h.exec_legal hlegal

theorem execWord_input {w : OpWord} (h : execWord w s = .next t) : t.input = s.input := by
  obtain ⟨i, -, hexec⟩ := execWord_next_iff.1 h
  obtain ⟨-, hinput, -⟩ := parametersAndInputUntouched i s t hexec
  exact hinput

/-- A step goes on, by idling or by the oldest word, which is legal. -/
theorem LegalUnfaulted.step_next (h : LegalUnfaulted s) : ∃ t, step s = .next t ∧ LegalUnfaulted t := by
  obtain ⟨hs, hlegal⟩ := legalUnfaulted_iff.1 h
  cases hinput : s.input with
  | nil => exact ⟨quiet s, step_of_nil hinput, legalUnfaulted_iff.2 ⟨hs.of_sameRamp sameRamp_quiet rfl, hlegal⟩⟩
  | cons w ws =>
    rw [hinput] at hlegal
    obtain ⟨hw, hws⟩ := List.forall_mem_cons.1 hlegal
    obtain ⟨t, hexec, ht⟩ := (hs.of_sameRamp (sameRamp_withInput ws) rfl).execWord_legal hw
    refine ⟨t, (step_of_cons hinput).trans hexec, legalUnfaulted_iff.2 ⟨ht, ?_⟩⟩
    rw [execWord_input hexec]
    exact hws

/-- Settles O60: RESET of a matched pair clears `err`, and a step performs the legal word that is oldest, which sets no
flag and leaves the others waiting. -/
theorem stepKeepsLegalMatchedUnfaulted : Obligations.StepKeepsLegalMatchedUnfaulted := by
  constructor
  · intro p hp hmatched
    refine legalUnfaulted_iff.2 ⟨?_, List.forall_mem_nil _⟩
    rw [resetOf_eq_resetWrites]
    exact resetWrites_matchedUnfaulted hp hmatched
  · intro s hs
    obtain ⟨u, hstep, hu⟩ := hs.step_next
    refine ⟨⟨u, hstep⟩, fun t ht => ?_⟩
    obtain rfl : u = t := Host.Outcome.next.inj (hstep.symm.trans ht)
    exact hu

/-! ## Good runs -/

theorem MatchedUnfaulted.runWords_legal (h : MatchedUnfaulted s) {ws : List OpWord} (hws : ∀ w ∈ ws, LegalWord w) :
    ∃ t, runWords ws s = .next t ∧ MatchedUnfaulted t := by
  induction ws generalizing s with
  | nil => exact ⟨s, rfl, h⟩
  | cons w ws ih =>
    obtain ⟨hw, hrest⟩ := List.forall_mem_cons.1 hws
    obtain ⟨u, hword, hu⟩ := h.execWord_legal hw
    obtain ⟨t, hrun, ht⟩ := ih hu hrest
    exact ⟨t, runWords_cons_next_iff.2 ⟨u, hword, hrun⟩, ht⟩

/-- Settles O52: the first RESET leaves a matched block without a fault, and no legal word after it sets a flag. -/
theorem matchedLegalRunsAreGood : Obligations.MatchedLegalRunsAreGood := by
  intro ws s hwf hmatched hstarts hlegal
  cases ws with
  | nil => exact absurd hstarts Bool.false_ne_true
  | cons w ws =>
    have hdecode : decode w = .ok .reset := of_decide_eq_true hstarts
    obtain ⟨-, hrest⟩ := List.forall_mem_cons.1 hlegal
    have hreset : MatchedUnfaulted (resetWrites (quiet s)) := resetWrites_matchedUnfaulted hwf hmatched
    obtain ⟨t, hrun, ht⟩ := hreset.runWords_legal hrest
    have hfirst : execWord w s = .next (resetWrites (quiet s)) :=
      (execWord_of_decode hdecode).trans (exec_reset_of_wf hwf)
    exact ⟨t, ⟨hstarts, runWords_cons_next_iff.2 ⟨_, hfirst, hrun⟩⟩, ht.unfaulted⟩

/-- No run changes the parameters. -/
theorem runWords_cfg {ws : List OpWord} (hrun : runWords ws s = .next t) : t.cfg = s.cfg := by
  refine runWords_keeps (I := fun u _ => u.cfg = s.cfg) ?_ ws (n := 0) rfl hrun
  intro i u v _ hu hexec
  obtain ⟨hcfg, -, -⟩ := parametersAndInputUntouched i u v hexec
  exact hcfg.trans hu

/-- In every state reachable from RESET `err[0]` tells whether the pair is mismatched. -/
theorem runFromReset_mismatchFlagged {ws : List OpWord} (hrun : RunFromReset ws s t) : MismatchFlagged t :=
  runFromReset_keeps (I := fun u _ => MismatchFlagged u) (fun _ => resetWrites_mismatchFlagged)
    exec_mismatchFlagged hrun

/-- Settles O54: a run from RESET ends with `err[0]` set for a mismatched pair, and so in a faulted state. -/
theorem mismatchedRunsAreNeverGood : Obligations.MismatchedRunsAreNeverGood := by
  rintro ws s hmismatched ⟨t, hrun, hunfaulted⟩
  have ⟨_, hwords⟩ := hrun
  have hset : t.flag .cfgMismatch = true := by
    rw [runFromReset_mismatchFlagged hrun, runWords_cfg hwords]
    exact decide_eq_true hmismatched
  have hclear : t.flag .cfgMismatch = false := not_faulted_iff.1 hunfaulted .cfgMismatch
  exact Bool.false_ne_true (hclear.symm.trans hset)

end Sys2Proof.Machine

/-! RESET and what is observed of a run (spec 70_reset_and_hazards.md R101, R112). -/

namespace Sys2Proof.Machine

variable {s t : State}

/-! ## RESET -/

theorem resetErr_eq_of_params (p : Config.Params) :
    resetErr p = if p.max ≠ p.threshold then 0b001#3 else 0b000#3 := by
  simp [resetErr_eq, params_matched_iff]

/-- Settles O26: the word is that of RESET, `resetWrites` writes every register, and `rst` overrides the cycle. -/
theorem resetResult : Obligations.ResetResult := by
  refine ⟨decodeOfEncode .reset rfl, fun s hwf => ?result, fun _ _ => clockCycle_of_rst⟩
  case result =>
    rw [exec_reset_of_wf hwf, ← resetErr_eq_of_params]
    rfl

/-- Settles O27: the reset state is a function of the parameters, and so is the refusal of an ill-formed pair. -/
theorem resetForgetsThePast : Obligations.ResetForgetsThePast := by
  intro s s' hcfg hinput
  cases hwf : s.cfg.wf with
  | true => rw [exec_reset_eq_resetOf hwf, exec_reset_eq_resetOf (hcfg ▸ hwf), hcfg, hinput]
  | false => rw [exec_of_not_wf .reset hwf, exec_of_not_wf .reset (hcfg ▸ hwf)]

/-! ## What is observed of a run -/

theorem observe_cons {w : OpWord} (h : execWord w s = .next t) (ws : List OpWord) :
    observe (w :: ws) s = t :: observe ws t := by
  simp [observe, h]

theorem length_observe {ws : List OpWord} (hrun : runWords ws s = .next t) : (observe ws s).length = ws.length := by
  induction ws generalizing s with
  | nil => rfl
  | cons w ws ih =>
    obtain ⟨u, hword, hrest⟩ := runWords_cons_next_iff.1 hrun
    rw [observe_cons hword, List.length_cons, List.length_cons, ih hrest]

/-- A run ends in the state observed last, or where it began if nothing was performed. -/
theorem getLastD_observe {ws : List OpWord} (hrun : runWords ws s = .next t) : (observe ws s).getLastD s = t := by
  induction ws generalizing s with
  | nil => exact Host.Outcome.next.inj hrun
  | cons w ws ih =>
    obtain ⟨u, hword, hrest⟩ := runWords_cons_next_iff.1 hrun
    rw [observe_cons hword, List.getLastD_cons, ih hrest]

/-- A word that is performed leaves the block operable, in the instance it was in, whether or not it was reset
before. -/
theorem execWord_operable {w : OpWord} (h : execWord w s = .next t) : Operable t ∧ t.cfg = s.cfg := by
  obtain ⟨i, -, hexec⟩ := execWord_next_iff.1 h
  obtain ⟨hwf, -, -⟩ := exec_next_iff.1 hexec
  obtain ⟨hcfg, -, hreset⟩ := parametersAndInputUntouched i s t hexec
  exact ⟨⟨hcfg ▸ hwf, hreset⟩, hcfg⟩

theorem operable_of_mem_observe {ws : List OpWord} {u : State} (h : u ∈ observe ws s) :
    Operable u ∧ u.cfg = s.cfg := by
  induction ws generalizing s with
  | nil => exact absurd h List.not_mem_nil
  | cons w ws ih =>
    cases hword : execWord w s with
    | next v =>
      obtain ⟨hv, hcfg⟩ := execWord_operable hword
      rw [observe_cons hword, List.mem_cons] at h
      rcases h with rfl | hlater
      · exact ⟨hv, hcfg⟩
      · obtain ⟨hu, hlaterCfg⟩ := ih hlater
        exact ⟨hu, hlaterCfg.trans hcfg⟩
    | fault e => nomatch e
    | refused e => simp [observe, hword] at h

/-- Settles O53: each word of the run is performed and observed, and the RESET it starts with gives it a last state
observed. -/
theorem runIsObservedOperationByOperation : Obligations.RunIsObservedOperationByOperation := by
  rintro ws s t ⟨hstarts, hrun⟩
  refine ⟨length_observe hrun, ?last, fun _ => operable_of_mem_observe⟩
  case last =>
    cases ws with
    | nil => exact absurd hstarts Bool.false_ne_true
    | cons w ws =>
      obtain ⟨u, hword, hrest⟩ := runWords_cons_next_iff.1 hrun
      rw [observe_cons hword, List.getLast?_cons, ← List.getLastD_eq_getLast?, getLastD_observe hrest]

end Sys2Proof.Machine
